-- ==== Sys2Proof/Word.lean ====
section
/-! DEFINITION. The words of the block (30_encoding.md R80): a byte, a button code, a mode code, a
frame, a symbol code and a control word. Every quantity is unsigned (00_scope.md R16). -/

namespace Sys2Proof

/-- Format CHAR, and one entry of the translation table: 8 bits (30_encoding.md R91, 20_memory.md R63). -/
abbrev Byte := BitVec 8

/-- The 7-bit button code, which is also the address of a table entry (30_encoding.md R85, 20_memory.md R41). -/
abbrev Button := BitVec 7

/-- The 5-bit mode code (30_encoding.md R85). -/
abbrev ModeCode := BitVec 5

/-- Format FRAME: the 12 data bits of a message, `mode` in bits 11:7 and `button` in bits 6:0
(30_encoding.md R85). It is also the width of `bit_buffer` (10_state.md R21). -/
abbrev FrameWord := BitVec 12

/-- Format SYM: the 2-bit code of a pulse class (30_encoding.md R83). -/
abbrev SymWord := BitVec 2

/-- Format CTL: the control word of one step, `rst`, `dead`, `pulse_valid` from bit 2 down to bit 0
(30_encoding.md R90). -/
abbrev CtlWord := BitVec 3

end Sys2Proof
end

