-- ==== Sys2Proof/Config.lean ====
section
/-! DEFINITION. The constants the source fixes (00_scope.md R10), the OPEN parameters it leaves without
a value (R8, R9, R11), and the free values of the model. A free value is an opaque constant with no
body: no proof can see what it is. -/

namespace Sys2Proof

/-- `NUL`: the null character, the default table entry (00_scope.md R10, 20_memory.md R42). -/
def Config.nul : Byte := 0x00#8

/-- `ACCEPT_MODE`: the single accepted mode value (00_scope.md R10, 42_finalize_translate.md R142). -/
def Config.acceptMode : ModeCode := 0x01#5

/-- `FINAL_GUARD`: finalize when `bit_index > 11` (00_scope.md R10, 41_bit_assembly.md R126). -/
def Config.finalGuard : Nat := 11

/-- `FRAME_BITS`: data bits of a message (00_scope.md R10). -/
def Config.frameBits : Nat := 12

/-- The OPEN parameters of the block (00_scope.md R8, R9, R11): the source names them and gives no value;
"a model takes it as an argument". -/
structure Params where
  /-- `TICK_W`: width in bits of `raw_ticks` (R8). -/
  tickW : Nat
  /-- `K`: the multiplier of the quantization (R9). -/
  k : Nat
  /-- `DENOM`: the divisor of the quantization (R9). -/
  denom : Nat
  /-- `DEAD_CYCLES`: length of the dead time in steps (R11). -/
  deadCycles : Nat
  deriving DecidableEq, Repr

/-- The bounds the spec puts on the parameters: `TICK_W >= 2` (R8), `K >= 1` and `DENOM >= 1` (R9). -/
abbrev Params.Legal (p : Params) : Prop := 2 ≤ p.tickW ∧ 1 ≤ p.k ∧ 1 ≤ p.denom

/-- `DEAD_W`: the least width, at least 1, of a counter that holds `DEAD_CYCLES` (R11). -/
def Params.deadW (p : Params) : Nat := Nat.log2 p.deadCycles + 1

/-- Free value: `TICK_W` of this block, less the 2 it is at least. Log entry 4. -/
opaque Config.freeTickW : Nat

/-- Free value: `K` of this block, less the 1 it is at least. Log entry 4. -/
opaque Config.freeK : Nat

/-- Free value: `DENOM` of this block, less the 1 it is at least. Log entry 4. -/
opaque Config.freeDenom : Nat

/-- Free value: `DEAD_CYCLES` of this block. Log entry 4. -/
opaque Config.freeDeadCycles : Nat

/-- The parameters of this block: any that are legal, none in particular (DESIGN CHOICE, safe: log entry 4). -/
def Config.params : Params :=
  { tickW := Config.freeTickW + 2, k := Config.freeK + 1, denom := Config.freeDenom + 1,
    deadCycles := Config.freeDeadCycles }

/-- Free value: the port `rst` in the `n`-th step for which no input is listed. Log entry 2. -/
opaque Config.freeRst : Nat → Bool

/-- Free value: the port `pulse_valid` in the `n`-th step for which no input is listed. Log entry 2. -/
opaque Config.freePulseValid : Nat → Bool

/-- Free value: the port `raw_ticks` in the `n`-th step for which no input is listed. Log entry 2. -/
opaque Config.freeRawTicks : Nat → Nat

end Sys2Proof
end

