-- ==== Sys2Proof/Machine/Rom.lean ====
section
/-! DEFINITION. The one memory of the block: the read-only translation table `TABLE` (20_memory.md R40, R41,
R66), as a list of cells in canonical form. It is a constant, not state (10_state.md R26). -/

namespace Sys2Proof.Machine

/-- A memory: its cells that do not read as `NUL`, addresses strictly rising. -/
abbrev Memory := List Host.Cell

/-- The addresses of a list of cells rise strictly. -/
def Memory.rising : Memory → Bool
  | [] => true
  | [_] => true
  | c :: d :: rest => decide (c.1 < d.1) && Memory.rising (d :: rest)

/-- Canonical form: addresses strictly rising, and no cell that holds what an unlisted address reads as. -/
def Memory.wf (m : Memory) : Bool := m.rising && m.all (fun c => c.2 != Config.nul)

/-- The byte at an address; an address with no cell reads as `NUL` (20_memory.md R42). -/
def Memory.read : Memory → Nat → Byte
  | [], _ => Config.nul
  | c :: rest, a => if c.1 = a then c.2 else Memory.read rest a

/-- The contents of `TABLE`: the 18 entries of 20_memory.md R44 to R61, by address. Every other address
of the 128 holds `NUL` (R62). The byte values are ASCII (93_implementation_defined.md G1; log entry 8). -/
def tableCells : Memory :=
  [(0x00, 0x31#8), (0x01, 0x32#8), (0x02, 0x33#8), (0x03, 0x34#8), (0x04, 0x35#8), (0x05, 0x36#8),
   (0x06, 0x37#8), (0x07, 0x38#8), (0x08, 0x39#8), (0x09, 0x30#8)]
  ++ [(0x0B, 0x0A#8)]
  ++ [(0x10, 0x5E#8), (0x11, 0x76#8), (0x12, 0x2B#8), (0x13, 0x2D#8), (0x14, 0x6D#8), (0x15, 0x70#8)]
  ++ [(0x3B, 0x63#8)]

/-- `MemRead(addr, 1)`: the byte `TABLE[addr]`, the only memory access (20_memory.md R64). The 7-bit
address is always in range (R68). -/
def memRead (addr : Button) : Byte := tableCells.read addr.toNat

/-- The table lists an entry for this button code (20_memory.md R44 to R61). -/
def isListed (b : Button) : Bool := tableCells.any (fun c => c.1 == b.toNat)

end Sys2Proof.Machine
end

