-- ==== Sys2Proof/Syntax.lean ====
section
/-! DEFINITION. The instructions: one constructor per row of the opcode table (30_encoding.md R96), in the
table's order. Three formats: CTL (what one step does), SYM (what one observed pulse does), FRAME (what
one completed message does). -/

namespace Sys2Proof

/-- The pulse class, "enumerated value {START, ONE, ZERO, IGNORE}" (30_encoding.md R83, 40_classifier.md R110). -/
inductive PulseClass where
  | zero
  | one
  | start
  | ignore
  deriving DecidableEq, Repr

/-- The operations of the block. -/
inductive Instr where
  /-- CTL `1xx`, RESET (43_system_step.md R162). -/
  | reset
  /-- CTL `01x`, DEAD_TICK (43_system_step.md R163). -/
  | deadTick
  /-- CTL `001`, PULSE; its operand is the TICK word `raw_ticks` (43_system_step.md R165, 30_encoding.md R81). -/
  | pulse (rawTicks : Nat)
  /-- CTL `000`, IDLE (43_system_step.md R164). -/
  | idle
  /-- SYM `00`, ZERO (41_bit_assembly.md R123, R125). -/
  | zero
  /-- SYM `01`, ONE (41_bit_assembly.md R122, R125). -/
  | one
  /-- SYM `10`, START (41_bit_assembly.md R121). -/
  | start
  /-- SYM `11`, IGNORE (41_bit_assembly.md R124). -/
  | ignore
  /-- FRAME 0x080, Button 1 (20_memory.md R44). -/
  | key1
  /-- FRAME 0x081, Button 2 (20_memory.md R45). -/
  | key2
  /-- FRAME 0x082, Button 3 (20_memory.md R46). -/
  | key3
  /-- FRAME 0x083, Button 4 (20_memory.md R47). -/
  | key4
  /-- FRAME 0x084, Button 5 (20_memory.md R48). -/
  | key5
  /-- FRAME 0x085, Button 6 (20_memory.md R49). -/
  | key6
  /-- FRAME 0x086, Button 7 (20_memory.md R50). -/
  | key7
  /-- FRAME 0x087, Button 8 (20_memory.md R51). -/
  | key8
  /-- FRAME 0x088, Button 9 (20_memory.md R52). -/
  | key9
  /-- FRAME 0x089, Button 0 (20_memory.md R53). -/
  | key0
  /-- FRAME 0x090, Channel Up (20_memory.md R54). -/
  | keyChUp
  /-- FRAME 0x091, Channel Down (20_memory.md R55). -/
  | keyChDown
  /-- FRAME 0x092, Volume Up (20_memory.md R56). -/
  | keyVolUp
  /-- FRAME 0x093, Volume Down (20_memory.md R57). -/
  | keyVolDown
  /-- FRAME 0x094, Mute toggle (20_memory.md R58). -/
  | keyMute
  /-- FRAME 0x095, Power toggle (20_memory.md R59). -/
  | keyPower
  /-- FRAME 0x08B, Enter (20_memory.md R60). -/
  | keyEnter
  /-- FRAME 0x0BB, Clear/Prev-channel (20_memory.md R61). -/
  | keyClear
  /-- FRAME `00001bbbbbbb`, accepted mode with a button the table does not list (20_memory.md R62). -/
  | keyUnmapped (button : Button)
  /-- FRAME `mmmmmbbbbbbb`, any mode but the accepted one (42_finalize_translate.md R142). -/
  | msgWrongMode (mode : ModeCode) (button : Button)
  deriving DecidableEq, Repr

end Sys2Proof
end

