-- ==== Sys2Proof/WellFormed.lean ====
section
/-! DEFINITION. Which instructions are well formed: those some word of the opcode table decodes to. -/

namespace Sys2Proof

/-- A PULSE's operand fits the `raw_ticks` port (00_scope.md R8); KEY_UNMAPPED has a button the table does not
list (20_memory.md R62); MSG_WRONG_MODE has a mode that is not accepted (42_finalize_translate.md R142). -/
def Instr.wf (p : Params) : Instr → Bool
  | .pulse t => decide (t < 2 ^ p.tickW)
  | .keyUnmapped b => !Machine.isListed b
  | .msgWrongMode m _ => m != Config.acceptMode
  | .reset | .deadTick | .idle | .zero | .one | .start | .ignore
  | .key1 | .key2 | .key3 | .key4 | .key5 | .key6 | .key7 | .key8 | .key9 | .key0
  | .keyChUp | .keyChDown | .keyVolUp | .keyVolDown | .keyMute | .keyPower | .keyEnter | .keyClear => true

end Sys2Proof
end

