-- ==== Sys2Proof/Decode.lean ====
section
/-! DEFINITION. The decoder of the three formats, total on every word of a format and refusing a number
that is no word of it by name; then the encoder, written from the same tables (30_encoding.md R83, R85,
R89, R90, R96; the spec's opcode table). The block has no instruction memory (20_memory.md R40, R75): a word
is what the ports and registers present. -/

namespace Sys2Proof

/-- The formats that carry operations (30_encoding.md R80). -/
inductive Format where
  | ctl
  | sym
  | frame
  deriving DecidableEq, Repr

/-- One word of a format. The TICK word of 30_encoding.md R81 stands beside the CTL word of a step
(log entry 12). -/
inductive Code where
  | ctl (w : CtlWord) (rawTicks : Nat)
  | sym (w : SymWord)
  | frame (w : FrameWord)
  deriving DecidableEq, Repr

/-- Why a number is no word: it has bits above its format's width, or no format has that many bits. -/
inductive DecodeError where
  /-- The number does not fit the format. -/
  | wordTooWide (f : Format) (w : Nat)
  /-- No format has this many bits. -/
  | noSuchFormat (nbits : Nat)
  deriving DecidableEq, Repr

/-! ### Fields of a frame -/

/-- `button = frame & 0x7F` (30_encoding.md R87). -/
def frameButton (f : FrameWord) : Button := (f &&& 0x7F#12).setWidth 7

/-- `mode = (frame >> 7) & 0x1F` (30_encoding.md R87). -/
def frameMode (f : FrameWord) : ModeCode := ((f >>> 7) &&& 0x1F#12).setWidth 5

/-- The frame that carries button `b` and mode `m`: `(m << 7) | b` (30_encoding.md R88). -/
def composeFrame (m : ModeCode) (b : Button) : FrameWord := (m.setWidth 12 <<< 7) ||| b.setWidth 12

/-! ### Decoding -/

/-- Format CTL, in priority order `rst`, `dead`, `pulse_valid` (30_encoding.md R90). -/
def decodeCtl (w : CtlWord) (rawTicks : Nat) : Instr :=
  if w.getLsbD 2 then .reset
  else if w.getLsbD 1 then .deadTick
  else if w.getLsbD 0 then .pulse rawTicks
  else .idle

/-- Format SYM (30_encoding.md R83). -/
def decodeSym (w : SymWord) : Instr :=
  if w = 0b00#2 then .zero
  else if w = 0b01#2 then .one
  else if w = 0b10#2 then .start
  else .ignore

/-- The 18 FRAME rows with an exact match, in the table's order (30_encoding.md R89, R96). -/
def keyRows : List (FrameWord × Instr) :=
  [(0x080#12, .key1), (0x081#12, .key2), (0x082#12, .key3), (0x083#12, .key4), (0x084#12, .key5),
   (0x085#12, .key6), (0x086#12, .key7), (0x087#12, .key8), (0x088#12, .key9), (0x089#12, .key0)]
  ++ [(0x090#12, .keyChUp), (0x091#12, .keyChDown), (0x092#12, .keyVolUp), (0x093#12, .keyVolDown),
      (0x094#12, .keyMute), (0x095#12, .keyPower)]
  ++ [(0x08B#12, .keyEnter), (0x0BB#12, .keyClear)]

/-- Format FRAME: an exact row, else KEY_UNMAPPED for the accepted mode, else MSG_WRONG_MODE
(30_encoding.md R89, R96). -/
def decodeFrame (f : FrameWord) : Instr :=
  match keyRows.find? (fun r => r.1 == f) with
  | some r => r.2
  | none =>
    if frameMode f = Config.acceptMode then .keyUnmapped (frameButton f)
    else .msgWrongMode (frameMode f) (frameButton f)

/-- The operation a word stands for. Every word of every format has one: the block has no illegal encoding
(30_encoding.md R92). -/
def decode : Code → Instr
  | .ctl w t => decodeCtl w t
  | .sym w => decodeSym w
  | .frame w => decodeFrame w

/-- A number read as a word of a format; one too wide for it is refused by name. A CTL number stands with
the TICK word `rawTicks`. -/
def codeOfNat (f : Format) (w rawTicks : Nat) : Except DecodeError Code :=
  match f with
  | .ctl => if w < 8 then .ok (.ctl (BitVec.ofNat 3 w) rawTicks) else .error (.wordTooWide f w)
  | .sym => if w < 4 then .ok (.sym (BitVec.ofNat 2 w)) else .error (.wordTooWide f w)
  | .frame => if w < 4096 then .ok (.frame (BitVec.ofNat 12 w)) else .error (.wordTooWide f w)

/-- The format of an opcode-table row by its number of bits: 2, 3 and 12 are the widths themselves, 16 is
the 12-bit FRAME in whole bytes, and 8 is read as the CTL word a step decodes, since one byte does not say
whether it holds a CTL or a SYM word (DESIGN CHOICE, log entry 19). -/
def formatOfBits (nbits : Nat) : Except DecodeError Format :=
  match nbits with
  | 2 => .ok .sym
  | 3 => .ok .ctl
  | 8 => .ok .ctl
  | 12 => .ok .frame
  | 16 => .ok .frame
  | n => .error (.noSuchFormat n)

/-- An opcode-table word as a word of its format; the TICK word beside a CTL word is 0. -/
def tableCode (nbits w : Nat) : Except DecodeError Code :=
  match formatOfBits nbits with
  | .ok f => codeOfNat f w 0
  | .error e => .error e

/-- The instruction the decoder reads from an opcode-table word. -/
def decodeTableWord (nbits w : Nat) : Option Instr :=
  match tableCode nbits w with
  | .ok c => some (decode c)
  | .error _ => none

/-! ### Encoding -/

/-- The word of an instruction, from the opcode table's `match` column; the don't-care bits of RESET and
DEAD_TICK are 0 (log entry 12). -/
def encode : Instr → Code
  | .reset => .ctl 0b100#3 0
  | .deadTick => .ctl 0b010#3 0
  | .pulse t => .ctl 0b001#3 t
  | .idle => .ctl 0b000#3 0
  | .zero => .sym 0b00#2
  | .one => .sym 0b01#2
  | .start => .sym 0b10#2
  | .ignore => .sym 0b11#2
  | .key1 => .frame 0x080#12
  | .key2 => .frame 0x081#12
  | .key3 => .frame 0x082#12
  | .key4 => .frame 0x083#12
  | .key5 => .frame 0x084#12
  | .key6 => .frame 0x085#12
  | .key7 => .frame 0x086#12
  | .key8 => .frame 0x087#12
  | .key9 => .frame 0x088#12
  | .key0 => .frame 0x089#12
  | .keyChUp => .frame 0x090#12
  | .keyChDown => .frame 0x091#12
  | .keyVolUp => .frame 0x092#12
  | .keyVolDown => .frame 0x093#12
  | .keyMute => .frame 0x094#12
  | .keyPower => .frame 0x095#12
  | .keyEnter => .frame 0x08B#12
  | .keyClear => .frame 0x0BB#12
  | .keyUnmapped b => .frame (composeFrame Config.acceptMode b)
  | .msgWrongMode m b => .frame (composeFrame m b)

/-! ### The opcode table -/

/-- One row of the opcode table: a word of the format matches it when `word & mask = match` (30_encoding.md R96). -/
structure OpcodeRow where
  mnemonic : String
  format : Format
  matchBits : Nat
  mask : Nat
  deriving DecidableEq, Repr

/-- The CTL rows, in file order (30_encoding.md R90, R96). -/
def ctlRows : List OpcodeRow :=
  [⟨"RESET", .ctl, 0x4, 0x4⟩,
      ⟨"DEAD_TICK", .ctl, 0x2, 0x6⟩,
      ⟨"PULSE", .ctl, 0x1, 0x7⟩,
      ⟨"IDLE", .ctl, 0x0, 0x7⟩]

/-- The SYM rows, in file order (30_encoding.md R83, R96). -/
def symRows : List OpcodeRow :=
  [⟨"ZERO", .sym, 0x0, 0x3⟩,
      ⟨"ONE", .sym, 0x1, 0x3⟩,
      ⟨"START", .sym, 0x2, 0x3⟩,
      ⟨"IGNORE", .sym, 0x3, 0x3⟩]

/-- The FRAME rows, in file order (30_encoding.md R89, R96). -/
def frameRows : List OpcodeRow :=
  [⟨"KEY_1", .frame, 0x080, 0xFFF⟩,
      ⟨"KEY_2", .frame, 0x081, 0xFFF⟩,
      ⟨"KEY_3", .frame, 0x082, 0xFFF⟩,
      ⟨"KEY_4", .frame, 0x083, 0xFFF⟩,
      ⟨"KEY_5", .frame, 0x084, 0xFFF⟩,
      ⟨"KEY_6", .frame, 0x085, 0xFFF⟩,
      ⟨"KEY_7", .frame, 0x086, 0xFFF⟩,
      ⟨"KEY_8", .frame, 0x087, 0xFFF⟩]
  ++ [⟨"KEY_9", .frame, 0x088, 0xFFF⟩,
      ⟨"KEY_0", .frame, 0x089, 0xFFF⟩,
      ⟨"KEY_CH_UP", .frame, 0x090, 0xFFF⟩,
      ⟨"KEY_CH_DOWN", .frame, 0x091, 0xFFF⟩,
      ⟨"KEY_VOL_UP", .frame, 0x092, 0xFFF⟩,
      ⟨"KEY_VOL_DOWN", .frame, 0x093, 0xFFF⟩,
      ⟨"KEY_MUTE", .frame, 0x094, 0xFFF⟩,
      ⟨"KEY_POWER", .frame, 0x095, 0xFFF⟩]
  ++ [⟨"KEY_ENTER", .frame, 0x08B, 0xFFF⟩,
      ⟨"KEY_CLEAR", .frame, 0x0BB, 0xFFF⟩,
      ⟨"KEY_UNMAPPED", .frame, 0x080, 0xF80⟩,
      ⟨"MSG_WRONG_MODE", .frame, 0x000, 0x000⟩]

/-- The rows of a format. -/
def opcodeRows : Format → List OpcodeRow
  | .ctl => ctlRows
  | .sym => symRows
  | .frame => frameRows

/-- The format of a word. -/
def Code.format : Code → Format
  | .ctl _ _ => .ctl
  | .sym _ => .sym
  | .frame _ => .frame

/-- The bits of a word as a number, without the TICK word beside a CTL word. -/
def Code.bits : Code → Nat
  | .ctl w _ => w.toNat
  | .sym w => w.toNat
  | .frame w => w.toNat

/-- The row that is the first match of a word within its format (30_encoding.md R96). -/
def firstRow (c : Code) : Option OpcodeRow :=
  (opcodeRows c.format).find? (fun r => c.bits &&& r.mask == r.matchBits)

/-- The mnemonic of an instruction in the opcode table. -/
def Instr.mnemonic : Instr → String
  | .reset => "RESET"
  | .deadTick => "DEAD_TICK"
  | .pulse _ => "PULSE"
  | .idle => "IDLE"
  | .zero => "ZERO"
  | .one => "ONE"
  | .start => "START"
  | .ignore => "IGNORE"
  | .key1 => "KEY_1"
  | .key2 => "KEY_2"
  | .key3 => "KEY_3"
  | .key4 => "KEY_4"
  | .key5 => "KEY_5"
  | .key6 => "KEY_6"
  | .key7 => "KEY_7"
  | .key8 => "KEY_8"
  | .key9 => "KEY_9"
  | .key0 => "KEY_0"
  | .keyChUp => "KEY_CH_UP"
  | .keyChDown => "KEY_CH_DOWN"
  | .keyVolUp => "KEY_VOL_UP"
  | .keyVolDown => "KEY_VOL_DOWN"
  | .keyMute => "KEY_MUTE"
  | .keyPower => "KEY_POWER"
  | .keyEnter => "KEY_ENTER"
  | .keyClear => "KEY_CLEAR"
  | .keyUnmapped _ => "KEY_UNMAPPED"
  | .msgWrongMode _ _ => "MSG_WRONG_MODE"

end Sys2Proof
end

