-- ==== Sys2Proof/Machine/Operands.lean ====
section
/-! DEFINITION. Operand computations: the quantization of a measurement and its classes, the thresholds in
ticks, the symbol codes, the bit write, and the message that carries a frame. -/

namespace Sys2Proof.Machine

/-- The quantized duration `q = (raw_ticks * K) / DENOM`: exact product, floor division
(30_encoding.md R82, 40_classifier.md R116; log entry 10). -/
def quantize (p : Params) (rawTicks : Nat) : Nat := rawTicks * p.k / p.denom

/-- `classify(raw_ticks)` (40_classifier.md R111). -/
def classify (p : Params) (rawTicks : Nat) : PulseClass :=
  if quantize p rawTicks = 2 then .start
  else if quantize p rawTicks = 1 then .one
  else if quantize p rawTicks = 0 then .zero
  else .ignore

/-- The code of a class, `min(q, 3)` (30_encoding.md R83). -/
def symCode : PulseClass → SymWord
  | .zero => 0b00#2
  | .one => 0b01#2
  | .start => 0b10#2
  | .ignore => 0b11#2

/-- The class with a given code (30_encoding.md R83). -/
def classOfCode (w : SymWord) : PulseClass :=
  if w = 0b00#2 then .zero
  else if w = 0b01#2 then .one
  else if w = 0b10#2 then .start
  else .ignore

/-- The SYM operation of a class (30_encoding.md R83, 43_system_step.md R165). -/
def symInstr : PulseClass → Instr
  | .zero => .zero
  | .one => .one
  | .start => .start
  | .ignore => .ignore

/-- The threshold `T_n = ceil(n * DENOM / K)` in ticks (40_classifier.md R117). -/
def threshold (p : Params) (n : Nat) : Nat := (n * p.denom + p.k - 1) / p.k

/-- The lowest tick count of a class, where the class has one (40_classifier.md R112, R117). -/
def lowestTick (p : Params) (c : PulseClass) : Nat := threshold p (symCode c).toNat

/-- `bit_buffer[i] <- 1`: `bit_buffer | (1 << i)` (41_bit_assembly.md R128). An `i` above 11 sets no bit of
the 12 (10_state.md R30). -/
def setBit (buf : FrameWord) (i : Nat) : FrameWord := buf ||| (1#12 <<< i)

/-- The class that carries a data bit (30_encoding.md R86). -/
def bitClass (b : Bool) : PulseClass := if b then .one else .zero

/-- The message that carries a frame: one START, then the 12 data pulses, least significant bit first
(30_encoding.md R86, R88). -/
def messageClasses (f : FrameWord) : List PulseClass :=
  .start :: (List.range Config.frameBits).map (fun i => bitClass (f.getLsbD i))

end Sys2Proof.Machine
end

