-- ==== Sys2Proof/Machine/State.lean ====
section
/-! DEFINITION. The state of the machine: the four registers of the block (10_state.md R20), and, as plain
data, what the host's step takes no argument for and gives no result for: the parameters, the inputs still to come and
the outputs (00_scope.md R15, 43_system_step.md R160, R161). -/

namespace Sys2Proof.Machine

/-- The input ports in one step: `rst`, `pulse_valid`, `raw_ticks` (43_system_step.md R160). -/
structure Input where
  rst : Bool
  pulseValid : Bool
  rawTicks : Nat
  deriving DecidableEq, Repr

/-- The output ports in one step (43_system_step.md R160). `tx = some b` is `tx_valid = 1, tx_data = b` and
`tx = none` is `tx_valid = 0`, where `tx_data` has no meaning (R168, U1); `sym` likewise (R167, U2). -/
structure Output where
  tx : Option Byte
  busy : Bool
  sym : Option SymWord
  deriving DecidableEq, Repr

/-- The machine's state. -/
structure State where
  /-- `bit_buffer`, 12 bits (10_state.md R21). -/
  bitBuffer : FrameWord
  /-- `bit_index`, 4 bits (10_state.md R22). -/
  bitIndex : BitVec 4
  /-- `message_valid` (10_state.md R23). -/
  messageValid : Bool
  /-- `dead_cnt`, at most `DEAD_CYCLES` (10_state.md R24, R29; log entry 6). -/
  deadCnt : Nat
  /-- The parameters (00_scope.md R8, R9, R11). No step writes them (10_state.md R26; log entry 4). -/
  cfg : Params
  /-- What the environment presents in the coming steps, the next step's first (log entry 1). -/
  inputs : List Input
  /-- How many free inputs have been taken (log entry 2). -/
  freeCount : Nat
  /-- The outputs of the last step (log entry 3). -/
  out : Output
  /-- The transmit trace: the bytes emitted so far, in step order (00_scope.md R15; log entry 3). -/
  txTrace : List Byte
  deriving DecidableEq, Repr

/-- Why the machine stops with a fault. There is no such reason: the block raises no exception and takes
no trap (60_exceptions.md R180, R191). Nobody raises one; having none is exact. -/
inductive Fault where
  deriving DecidableEq, Repr

/-- Why a step has no meaning. -/
inductive Refusal where
  /-- An arm of `exec` whose instruction has no meaning yet; no arm raises it. Safe. -/
  | notModelled (mnemonic : String)
  deriving DecidableEq, Repr

/-- The state right after reset (10_state.md R32, 70_reset_and_hazards.md R221): the registers are
`{0, 0, false, 0}`. The parameters are the opaque ones; no input is listed, nothing has been emitted (log entries 1 to 4). -/
def State.reset : State :=
  { bitBuffer := 0x000#12
    bitIndex := 0#4
    messageValid := false
    deadCnt := 0
    cfg := Config.params
    inputs := []
    freeCount := 0
    out := { tx := none, busy := false, sym := none }
    txTrace := [] }

end Sys2Proof.Machine
end

