-- ==== Sys2Proof/Machine/Flags.lean ====
section
/-! DEFINITION. The flags and conditions computed from the state: `dead`, the control word, the control
state, the finalization guard, and which emitted bytes are visible. -/

namespace Sys2Proof.Machine

/-- The derived flag `dead`: `dead_cnt != 0` (10_state.md R24). It is also the `busy` output (43_system_step.md R166). -/
def isDead (s : State) : Bool := s.deadCnt != 0

/-- The control word `{rst, dead, pulse_valid}` of a step (30_encoding.md R90). -/
def ctlWord (rst dead pulseValid : Bool) : CtlWord :=
  BitVec.ofBool rst ++ BitVec.ofBool dead ++ BitVec.ofBool pulseValid

/-- The control states (10_state.md R25). -/
inductive ControlState where
  | waiting
  | accumulating
  | dead
  deriving DecidableEq, Repr

/-- The control state of a state (10_state.md R25). -/
def controlState (s : State) : ControlState :=
  if s.deadCnt ≠ 0 then .dead else if s.messageValid then .accumulating else .waiting

/-- The finalization guard, tested on `bit_index + 1` as a natural number: `bit_index > 11` after the increment
(41_bit_assembly.md R126, 10_state.md R30; log entry 7). -/
def guardHolds (bitIndex : BitVec 4) : Bool := decide (bitIndex.toNat + 1 > Config.finalGuard)

/-- The visible characters of a transmit trace: its bytes other than `NUL` (42_finalize_translate.md R149). -/
def visible (trace : List Byte) : List Byte := trace.filter (fun b => b != Config.nul)

end Sys2Proof.Machine
end

