-- ==== Sys2Proof/Machine/Ops.lean ====
section
/-! DEFINITION. The shared operations over the registers, the ports and the table. There is no operation
that takes an exception and none that returns from one: the block has neither (60_exceptions.md R180, R191, R192).
There is no memory write (20_memory.md R65). -/

namespace Sys2Proof.Machine

/-! ### Ports -/

/-- The input ports in the coming step: the head of the list, or free values when the list is used up (log
entry 2). The `raw_ticks` port carries `TICK_W` bits (00_scope.md R8; log entry 5). -/
def nextInput (s : State) : Input :=
  match s.inputs with
  | i :: _ => { i with rawTicks := i.rawTicks % 2 ^ s.cfg.tickW }
  | [] =>
    { rst := Config.freeRst s.freeCount
      pulseValid := Config.freePulseValid s.freeCount
      rawTicks := Config.freeRawTicks s.freeCount % 2 ^ s.cfg.tickW }

/-- The state once the coming step's input has been taken. -/
def consumeInput (s : State) : State :=
  match s.inputs with
  | _ :: rest => { s with inputs := rest }
  | [] => { s with freeCount := s.freeCount + 1 }

/-- The operation the coming step runs: the decoding of its control word and TICK word
(43_system_step.md R161, 30_encoding.md R90). -/
def fetch (s : State) : Instr :=
  decode (.ctl (ctlWord (nextInput s).rst (isDead s) (nextInput s).pulseValid) (nextInput s).rawTicks)

/-- The outputs at the start of a step: `busy = (dead_cnt != 0)`, no byte, no symbol (43_system_step.md R161, R166). -/
def openOutputs (s : State) : State := { s with out := { tx := none, busy := isDead s, sym := none } }

/-- `out.sym_valid = 1; out.sym = code(c)` (43_system_step.md R161, R167). -/
def showSym (c : PulseClass) (s : State) : State := { s with out := { s.out with sym := some (symCode c) } }

/-- `Emit(b)`: the step's output is `tx_valid = 1, tx_data = b` (00_scope.md R17, 42_finalize_translate.md R144). -/
def emit (b : Byte) (s : State) : State :=
  { s with out := { s.out with tx := some b }, txTrace := s.txTrace ++ [b] }

/-! ### Registers -/

/-- `bit_buffer <- 0; bit_index <- 0; message_valid <- v`: START with `true` (41_bit_assembly.md R121), the return to
WAITING with `false` (42_finalize_translate.md R146). -/
def clearMessage (v : Bool) (s : State) : State :=
  { s with bitBuffer := 0x000#12, bitIndex := 0#4, messageValid := v }

/-- `dead_cnt <- v`. -/
def setDead (v : Nat) (s : State) : State := { s with deadCnt := v }

/-- The end of every finalization: the dead time starts and the state returns to WAITING, whether or not the
mode matched (42_finalize_translate.md R145, R146). -/
def endMessage (s : State) : State := clearMessage false (setDead s.cfg.deadCycles s)

/-- What an accepted message with button `b` does: lookup, emission (also of `NUL`), end of message
(42_finalize_translate.md R143 to R146; log entry 9). -/
def deliver (b : Button) (s : State) : State := endMessage (emit (memRead b) s)

/-- `finalize()` (42_finalize_translate.md R140). -/
def finalize (s : State) : State :=
  if frameMode s.bitBuffer = Config.acceptMode then deliver (frameButton s.bitBuffer) s else endMessage s

/-- `bit_index <- bit_index + 1; if bit_index > 11 then finalize()` (41_bit_assembly.md R122, R123, R126). Finalization
clears `bit_index`, so its transient value 12 is never stored (10_state.md R22). -/
def advance (s : State) : State :=
  if guardHolds s.bitIndex then finalize s else { s with bitIndex := s.bitIndex + 1#4 }

/-- `bit_buffer[bit_index] <- 1` (41_bit_assembly.md R122, R128). -/
def markBit (s : State) : State := { s with bitBuffer := setBit s.bitBuffer s.bitIndex.toNat }

/-- A data bit: nothing in WAITING (41_bit_assembly.md R125); in ACCUMULATING it is taken (R122, R123). -/
def takeBit (v : Bool) (s : State) : State :=
  if s.messageValid then advance (if v then markBit s else s) else s

/-- `on_pulse(c)` (41_bit_assembly.md R120). -/
def onPulse (c : PulseClass) (s : State) : State :=
  match c with
  | .start => clearMessage true s
  | .one => takeBit true s
  | .zero => takeBit false s
  | .ignore => s

/-! ### Placing a word where the next step takes it (log entry 18) -/

/-- The input list with its head replaced. -/
def presentInput (i : Input) (s : State) : State := { s with inputs := i :: s.inputs.drop 1 }

/-- A step input that delivers a pulse of a class, by its lowest tick count. -/
def pulseInput (p : Params) (c : PulseClass) : Input :=
  { rst := false, pulseValid := true, rawTicks := lowestTick p c }

/-- The `dead` bit of a control word, made true of the dead-time counter. -/
def presentDead (dead : Bool) (s : State) : State :=
  if dead then setDead (if s.deadCnt = 0 then 1 else s.deadCnt) s else setDead 0 s

/-- The state whose next step meets the given word: a CTL word through the ports and the dead-time counter; a SYM word
through a pulse of its class; a FRAME word through its 12th data pulse, the other eleven bits already taken. -/
def presentCode (c : Code) (s : State) : State :=
  match c with
  | .ctl w t =>
    presentInput { rst := w.getLsbD 2, pulseValid := w.getLsbD 0, rawTicks := t }
      (if w.getLsbD 2 then s else presentDead (w.getLsbD 1) s)
  | .sym w => presentInput (pulseInput s.cfg (classOfCode w)) (setDead 0 s)
  | .frame w =>
    presentInput (pulseInput s.cfg (bitClass (w.getLsbD 11)))
      { setDead 0 s with bitBuffer := w &&& 0x7FF#12, bitIndex := 11#4, messageValid := true }

end Sys2Proof.Machine
end

