-- ==== Sys2Proof/Machine/Ctl.lean ====
section
/-! DEFINITION. The four CTL operations: what one step does (43_system_step.md R162 to R165). -/

namespace Sys2Proof.Machine

/-- RESET (43_system_step.md R162): the four registers are cleared; outputs as the state before had `busy`. -/
def execReset (s : State) : Host.Outcome State Fault Refusal :=
  .next (setDead 0 (clearMessage false (openOutputs s)))

/-- DEAD_TICK (43_system_step.md R163): `dead_cnt <- dead_cnt - 1`; a pulse, if any, is dropped. -/
def execDeadTick (s : State) : Host.Outcome State Fault Refusal :=
  .next (setDead (s.deadCnt - 1) (openOutputs s))

/-- PULSE (43_system_step.md R165): `c = classify(raw_ticks)`, shown on the `sym` port, then `on_pulse(c)`. -/
def execPulse (rawTicks : Nat) (s : State) : Host.Outcome State Fault Refusal :=
  .next (onPulse (classify s.cfg rawTicks) (showSym (classify s.cfg rawTicks) (openOutputs s)))

/-- IDLE (43_system_step.md R164): nothing; all strobes are 0. -/
def execIdle (s : State) : Host.Outcome State Fault Refusal := .next (openOutputs s)

end Sys2Proof.Machine
end

