-- ==== Sys2Proof/Machine/Frame.lean ====
section
/-! DEFINITION. The FRAME operations: what one completed message does, by its frame (30_encoding.md R89,
42_finalize_translate.md R140). -/

namespace Sys2Proof.Machine

/-- KEY_1, frame 0x080, Button 1 (20_memory.md R44, 42_finalize_translate.md R144). -/
def execKey1 (s : State) : Host.Outcome State Fault Refusal := .next (deliver 0x00#7 s)

/-- KEY_2, frame 0x081, Button 2 (20_memory.md R45, 42_finalize_translate.md R144). -/
def execKey2 (s : State) : Host.Outcome State Fault Refusal := .next (deliver 0x01#7 s)

/-- KEY_3, frame 0x082, Button 3 (20_memory.md R46, 42_finalize_translate.md R144). -/
def execKey3 (s : State) : Host.Outcome State Fault Refusal := .next (deliver 0x02#7 s)

/-- KEY_4, frame 0x083, Button 4 (20_memory.md R47, 42_finalize_translate.md R144). -/
def execKey4 (s : State) : Host.Outcome State Fault Refusal := .next (deliver 0x03#7 s)

/-- KEY_5, frame 0x084, Button 5 (20_memory.md R48, 42_finalize_translate.md R144). -/
def execKey5 (s : State) : Host.Outcome State Fault Refusal := .next (deliver 0x04#7 s)

/-- KEY_6, frame 0x085, Button 6 (20_memory.md R49, 42_finalize_translate.md R144). -/
def execKey6 (s : State) : Host.Outcome State Fault Refusal := .next (deliver 0x05#7 s)

/-- KEY_7, frame 0x086, Button 7 (20_memory.md R50, 42_finalize_translate.md R144). -/
def execKey7 (s : State) : Host.Outcome State Fault Refusal := .next (deliver 0x06#7 s)

/-- KEY_8, frame 0x087, Button 8 (20_memory.md R51, 42_finalize_translate.md R144). -/
def execKey8 (s : State) : Host.Outcome State Fault Refusal := .next (deliver 0x07#7 s)

/-- KEY_9, frame 0x088, Button 9 (20_memory.md R52, 42_finalize_translate.md R144). -/
def execKey9 (s : State) : Host.Outcome State Fault Refusal := .next (deliver 0x08#7 s)

/-- KEY_0, frame 0x089, Button 0 (20_memory.md R53, 42_finalize_translate.md R144). -/
def execKey0 (s : State) : Host.Outcome State Fault Refusal := .next (deliver 0x09#7 s)

/-- KEY_CH_UP, frame 0x090, Channel Up (20_memory.md R54, 42_finalize_translate.md R144). -/
def execKeyChUp (s : State) : Host.Outcome State Fault Refusal := .next (deliver 0x10#7 s)

/-- KEY_CH_DOWN, frame 0x091, Channel Down (20_memory.md R55, 42_finalize_translate.md R144). -/
def execKeyChDown (s : State) : Host.Outcome State Fault Refusal := .next (deliver 0x11#7 s)

/-- KEY_VOL_UP, frame 0x092, Volume Up (20_memory.md R56, 42_finalize_translate.md R144). -/
def execKeyVolUp (s : State) : Host.Outcome State Fault Refusal := .next (deliver 0x12#7 s)

/-- KEY_VOL_DOWN, frame 0x093, Volume Down (20_memory.md R57, 42_finalize_translate.md R144). -/
def execKeyVolDown (s : State) : Host.Outcome State Fault Refusal := .next (deliver 0x13#7 s)

/-- KEY_MUTE, frame 0x094, Mute toggle (20_memory.md R58, 42_finalize_translate.md R144). -/
def execKeyMute (s : State) : Host.Outcome State Fault Refusal := .next (deliver 0x14#7 s)

/-- KEY_POWER, frame 0x095, Power toggle (20_memory.md R59, 42_finalize_translate.md R144). -/
def execKeyPower (s : State) : Host.Outcome State Fault Refusal := .next (deliver 0x15#7 s)

/-- KEY_ENTER, frame 0x08B, Enter (20_memory.md R60, 42_finalize_translate.md R144). -/
def execKeyEnter (s : State) : Host.Outcome State Fault Refusal := .next (deliver 0x0B#7 s)

/-- KEY_CLEAR, frame 0x0BB, Clear/Prev-channel (20_memory.md R61, 42_finalize_translate.md R144). -/
def execKeyClear (s : State) : Host.Outcome State Fault Refusal := .next (deliver 0x3B#7 s)

/-- KEY_UNMAPPED: the table's null character is handed over (20_memory.md R62, 42_finalize_translate.md R144). -/
def execKeyUnmapped (button : Button) (s : State) : Host.Outcome State Fault Refusal := .next (deliver button s)

/-- MSG_WRONG_MODE: nothing is emitted; the dead time starts and the state returns to WAITING, whatever the mode and the
button (42_finalize_translate.md R142, R145, R146). -/
def execMsgWrongMode (_mode : ModeCode) (_button : Button) (s : State) : Host.Outcome State Fault Refusal :=
  .next (endMessage s)

end Sys2Proof.Machine
end

