-- ==== Sys2Proof/Machine/Symbol.lean ====
section
/-! DEFINITION. The four SYM operations: what one observed pulse does to the decoder state
(41_bit_assembly.md R121 to R126). -/

namespace Sys2Proof.Machine

/-- ZERO (41_bit_assembly.md R123; in WAITING R125). -/
def execZero (s : State) : Host.Outcome State Fault Refusal := .next (takeBit false s)

/-- ONE (41_bit_assembly.md R122; in WAITING R125). -/
def execOne (s : State) : Host.Outcome State Fault Refusal := .next (takeBit true s)

/-- START (41_bit_assembly.md R121). -/
def execStart (s : State) : Host.Outcome State Fault Refusal := .next (clearMessage true s)

/-- IGNORE (41_bit_assembly.md R124): no state change. -/
def execIgnore (s : State) : Host.Outcome State Fault Refusal := .next s

end Sys2Proof.Machine
end

