-- ==== Sys2Proof/Machine/Dispatch.lean ====
section
/-! DEFINITION. The dispatch: one arm per instruction, each a call of its meaning. -/

namespace Sys2Proof.Machine

def exec (i : Instr) (s : State) : Host.Outcome State Fault Refusal :=
  match i with
  | .reset => Sys2Proof.Machine.execReset s
  | .deadTick => Sys2Proof.Machine.execDeadTick s
  | .pulse rawTicks => Sys2Proof.Machine.execPulse rawTicks s
  | .idle => Sys2Proof.Machine.execIdle s
  | .zero => Sys2Proof.Machine.execZero s
  | .one => Sys2Proof.Machine.execOne s
  | .start => Sys2Proof.Machine.execStart s
  | .ignore => Sys2Proof.Machine.execIgnore s
  | .key1 => Sys2Proof.Machine.execKey1 s
  | .key2 => Sys2Proof.Machine.execKey2 s
  | .key3 => Sys2Proof.Machine.execKey3 s
  | .key4 => Sys2Proof.Machine.execKey4 s
  | .key5 => Sys2Proof.Machine.execKey5 s
  | .key6 => Sys2Proof.Machine.execKey6 s
  | .key7 => Sys2Proof.Machine.execKey7 s
  | .key8 => Sys2Proof.Machine.execKey8 s
  | .key9 => Sys2Proof.Machine.execKey9 s
  | .key0 => Sys2Proof.Machine.execKey0 s
  | .keyChUp => Sys2Proof.Machine.execKeyChUp s
  | .keyChDown => Sys2Proof.Machine.execKeyChDown s
  | .keyVolUp => Sys2Proof.Machine.execKeyVolUp s
  | .keyVolDown => Sys2Proof.Machine.execKeyVolDown s
  | .keyMute => Sys2Proof.Machine.execKeyMute s
  | .keyPower => Sys2Proof.Machine.execKeyPower s
  | .keyEnter => Sys2Proof.Machine.execKeyEnter s
  | .keyClear => Sys2Proof.Machine.execKeyClear s
  | .keyUnmapped button => Sys2Proof.Machine.execKeyUnmapped button s
  | .msgWrongMode mode button => Sys2Proof.Machine.execMsgWrongMode mode button s

end Sys2Proof.Machine
end

