-- ==== Sys2Proof/Machine/Step.lean ====
section
/-! DEFINITION. One step: one rising clock edge (43_system_step.md R161), and how a word is placed where the next step
takes it. -/

namespace Sys2Proof.Machine

/-- The top-level step (43_system_step.md R161): the input ports are read, the control word is decoded, and exactly one
operation runs. -/
def step (s : State) : Host.Outcome State Fault Refusal := exec (fetch s) (consumeInput s)

/-- `s` with the given opcode-table word placed so that the very next step runs its instruction (log entry 18). A number
that is no word of a format places nothing. -/
def State.withFetchWord (s : State) (nbits w : Nat) : State :=
  match tableCode nbits w with
  | .ok c => presentCode c s
  | .error _ => s

end Sys2Proof.Machine
end

