-- ==== Sys2Proof/Machine/Tokens.lean ====
section
/-! DEFINITION. The textual form of input sequences: one token per step, and the pseudo-instructions with their expansions
(30_encoding.md R94, R95). -/

namespace Sys2Proof.Machine

/-- A token of the notation (30_encoding.md R94): `S 1 0 X T(n) . R`. -/
inductive Token where
  | pulseStart
  | pulseOne
  | pulseZero
  | pulseIgnore
  | ticks (n : Nat)
  | dot
  | resetStep
  deriving DecidableEq, Repr

/-- The step input of a token. A class token stands for any tick count of its class; this is the lowest (DESIGN CHOICE, log
entry 17). -/
def tokenInput (p : Params) : Token → Input
  | .pulseStart => pulseInput p .start
  | .pulseOne => pulseInput p .one
  | .pulseZero => pulseInput p .zero
  | .pulseIgnore => pulseInput p .ignore
  | .ticks n => { rst := false, pulseValid := true, rawTicks := n }
  | .dot => { rst := false, pulseValid := false, rawTicks := 0 }
  | .resetStep => { rst := true, pulseValid := false, rawTicks := 0 }

/-- The token of a pulse class. -/
def classToken : PulseClass → Token
  | .start => .pulseStart
  | .one => .pulseOne
  | .zero => .pulseZero
  | .ignore => .pulseIgnore

/-- `MSG(b, m)`: `S`, then the 12 bits of `(m << 7) | b`, least significant first (30_encoding.md R95). -/
def msgTokens (b : Button) (m : ModeCode) : List Token := (messageClasses (composeFrame m b)).map classToken

/-- `KEY(b)` is `MSG(b, 0x01)` (30_encoding.md R95). -/
def keyTokens (b : Button) : List Token := msgTokens b Config.acceptMode

/-- `BITS(v, n)`: the `n` low bits of `v`, least significant first (30_encoding.md R95). -/
def bitsTokens (v n : Nat) : List Token := (List.range n).map (fun i => classToken (bitClass (v.testBit i)))

/-- `.*n`: `n` steps without a pulse (30_encoding.md R95). -/
def dotTokens (n : Nat) : List Token := List.replicate n .dot

/-- `DEADWAIT`: exactly enough idle steps for a dead time to run out (30_encoding.md R95). -/
def deadWaitTokens (p : Params) : List Token := dotTokens p.deadCycles

end Sys2Proof.Machine
end

