-- ==== Sys2Proof/Safety.lean ====
section
/-! DEFINITION. The terms in which claims speak: the invariant of 10_state.md R29, what finalization leaves, an
event-level decoder that keeps the bits of a message as a list (41_bit_assembly.md R129, 43_system_step.md R170), and the
classes an input sequence delivers. -/

namespace Sys2Proof.Machine

/-! ### The invariant -/

/-- The invariant of 10_state.md R29, items 1 to 5 in order; item 3 in its form `bit_buffer < 2^bit_index`. -/
structure State.Inv (s : State) : Prop where
  index_le : s.bitIndex.toNat ≤ 11
  waiting_clear : s.messageValid = false → s.bitIndex = 0#4 ∧ s.bitBuffer = 0x000#12
  bits_below : s.bitBuffer.toNat < 2 ^ s.bitIndex.toNat
  dead_waiting : s.deadCnt ≠ 0 → s.messageValid = false
  dead_le : s.deadCnt ≤ s.cfg.deadCycles

/-! ### What finalization leaves -/

/-- The state after an accepted message whose table entry is `ch` (42_finalize_translate.md R144 to R146). -/
def afterKey (ch : Byte) (s : State) : State :=
  { s with
    bitBuffer := 0x000#12
    bitIndex := 0#4
    messageValid := false
    deadCnt := s.cfg.deadCycles
    out := { s.out with tx := some ch }
    txTrace := s.txTrace ++ [ch] }

/-- The state after a message that emits nothing (42_finalize_translate.md R142, R145, R146). -/
def afterDiscard (s : State) : State :=
  { s with bitBuffer := 0x000#12, bitIndex := 0#4, messageValid := false, deadCnt := s.cfg.deadCycles }

/-- The state after finalization of a frame: by its number, mode `f / 128` and button `f mod 128`
(30_encoding.md R87, 42_finalize_translate.md R140). -/
def afterFrame (f : FrameWord) (s : State) : State :=
  if f.toNat / 128 = 1 then afterKey (memRead (BitVec.ofNat 7 (f.toNat % 128))) s else afterDiscard s

/-! ### The event-level decoder -/

/-- The number whose bits are listed, least significant first (30_encoding.md R86). -/
def bitsValue : List Bool → Nat
  | [] => 0
  | b :: rest => b.toNat + 2 * bitsValue rest

/-- The bytes a completed message emits, given its 12 bits in order of arrival. -/
def emission (bits : List Bool) : List Byte :=
  if bitsValue bits / 128 = 1 then [memRead (BitVec.ofNat 7 (bitsValue bits % 128))] else []

/-- The block as an observer of events sees it: the bits of the message in progress, if one is, the steps
of dead time left, and the bytes sent. -/
structure Block where
  message : Option (List Bool)
  dead : Nat
  sent : List Byte
  deriving DecidableEq, Repr

/-- A data bit of a message in progress; the 12th completes it. -/
def Block.takeBit (p : Params) (v : Bool) (b : Block) : Block :=
  match b.message with
  | none => b
  | some bits =>
    if bits.length = 11 then
      { message := none, dead := p.deadCycles, sent := b.sent ++ emission (bits ++ [v]) }
    else { b with message := some (bits ++ [v]) }

/-- One observed pulse. -/
def Block.onClass (p : Params) (b : Block) : PulseClass → Block
  | .start => { b with message := some [] }
  | .one => b.takeBit p true
  | .zero => b.takeBit p false
  | .ignore => b

/-- The class a step input delivers, through a port of `TICK_W` bits. -/
def Input.pulseClass (p : Params) (i : Input) : PulseClass := classify p (i.rawTicks % 2 ^ p.tickW)

/-- One step input: reset, then the dead time, then a pulse (43_system_step.md R161). -/
def Block.step (p : Params) (b : Block) (i : Input) : Block :=
  if i.rst then { message := none, dead := 0, sent := b.sent }
  else if b.dead ≠ 0 then { b with dead := b.dead - 1 }
  else if i.pulseValid then b.onClass p (i.pulseClass p)
  else b

/-- The event-level view of a state: the bits taken so far are the low `bit_index` bits of `bit_buffer`. -/
def State.block (s : State) : Block :=
  { message :=
      if s.messageValid then some ((List.range s.bitIndex.toNat).map (fun i => s.bitBuffer.getLsbD i)) else none
    dead := s.deadCnt
    sent := s.txTrace }

/-! ### Input sequences -/

/-- The classes of the pulses in an input sequence, in order. -/
def pulseClasses (p : Params) (ins : List Input) : List PulseClass :=
  (ins.filter (fun i => i.pulseValid)).map (fun i => i.pulseClass p)

/-- Those of them that are not IGNORE: what a message is made of (30_encoding.md R86). -/
def countedClasses (p : Params) (ins : List Input) : List PulseClass :=
  (pulseClasses p ins).filter (fun c => decide (c ≠ .ignore))

/-- An input that observes no data and no START: no reset, and no pulse or an IGNORE. -/
def Input.quiet (p : Params) (i : Input) : Bool := !i.rst && (!i.pulseValid || i.pulseClass p == .ignore)

/-- The coming step observes a pulse of this class (43_system_step.md R165). -/
def State.observes (s : State) (c : PulseClass) : Prop :=
  (nextInput s).rst = false ∧ s.deadCnt = 0 ∧ (nextInput s).pulseValid = true
    ∧ classify s.cfg (nextInput s).rawTicks = c

end Sys2Proof.Machine
end

