-- ==== Sys2Proof/Certificates/Slice0/Obligations.lean ====
section
/-! DEFINITION. The statements for the provers. Each docstring says which sentence of the spec it formalises. "Derived" marks a
statement that rests on a decision or an inference the spec marks as its own, or on a choice of the model. -/

open Sys2Proof Sys2Proof.Machine

/-! ### Reset, the invariant, the step -/

/-- 10_state.md R32, 70_reset_and_hazards.md R221 (derived: decision D10): after reset the registers are `{0, 0, false, 0}` and
the control state is WAITING. The other fields of the reset state are the model's choice (log entries 1 to 4) and are not stated. -/
def Obligations.ResetClearsFourRegisters : Prop :=
  State.reset.bitBuffer = 0x000#12 ∧ State.reset.bitIndex = 0#4 ∧ State.reset.messageValid = false
    ∧ State.reset.deadCnt = 0 ∧ controlState State.reset = .waiting

/-- 10_state.md R29 holds at reset (derived), whatever the parameters are, and the parameters are legal. -/
def Obligations.ResetSatisfiesInvariant : Prop := State.reset.Inv ∧ State.reset.cfg.Legal

/-- 10_state.md R29 (derived): every step keeps the five items of the invariant, from every state that meets them, for every
input and all parameters. -/
def Obligations.StepKeepsInvariant : Prop :=
  ∀ s t : State, s.Inv → step s = .next t → t.Inv

/-- 43_system_step.md R161, 30_encoding.md R90 (derived: decisions D1, D11): a step takes the head of the input list and runs
the operation its control word decodes to, `rst` before `dead` before `pulse_valid`; with no input listed it runs the same on
free port values (log entry 2), which the statement does not fix. -/
def Obligations.StepRunsDecodedInput : Prop :=
  (∀ (s : State) (i : Input) (rest : List Input), s.inputs = i :: rest →
    (i.rst = true → step s = exec .reset { s with inputs := rest }) ∧
    (i.rst = false → s.deadCnt ≠ 0 → step s = exec .deadTick { s with inputs := rest }) ∧
    (i.rst = false → s.deadCnt = 0 → i.pulseValid = true →
      step s = exec (.pulse (i.rawTicks % 2 ^ s.cfg.tickW)) { s with inputs := rest }) ∧
    (i.rst = false → s.deadCnt = 0 → i.pulseValid = false → step s = exec .idle { s with inputs := rest })) ∧
  (∀ s : State, s.inputs = [] →
    step s = exec (decode (.ctl (ctlWord (Config.freeRst s.freeCount) (isDead s) (Config.freePulseValid s.freeCount))
      (Config.freeRawTicks s.freeCount % 2 ^ s.cfg.tickW))) { s with freeCount := s.freeCount + 1 })

/-- 43_system_step.md R161, 60_exceptions.md R180 (derived): the step is total; no state faults and none is refused, and the
same holds of every operation. -/
def Obligations.StepAndExecAlwaysGoOn : Prop :=
  (∀ s : State, ∃ t, step s = .next t) ∧ (∀ (i : Instr) (s : State), ∃ t, exec i s = .next t)

/-- 10_state.md R26, 43_system_step.md R171 (derived): no step changes a parameter, and the inputs still to come are the old ones
less at most the first. -/
def Obligations.StepNeverChangesParameters : Prop :=
  ∀ s t : State, step s = .next t → t.cfg = s.cfg ∧ t.inputs = s.inputs.tail

/-! ### The classifier -/

/-- 40_classifier.md R111 (derived: decision D4, the exact product; log entry 10): with `q` the floor of the exact product over `DENOM`, 2 is START, 1 is ONE, 0 is ZERO, 3 or more is
IGNORE. -/
def Obligations.ClassifyByQuantizedDuration : Prop :=
  ∀ (p : Params) (t : Nat), p.Legal →
    (classify p t = .start ↔ t * p.k / p.denom = 2) ∧ (classify p t = .one ↔ t * p.k / p.denom = 1) ∧
    (classify p t = .zero ↔ t * p.k / p.denom = 0) ∧ (classify p t = .ignore ↔ 3 ≤ t * p.k / p.denom)

/-- 30_encoding.md R84, 40_classifier.md R112 to R115 (derived: the conditions in ticks). -/
def Obligations.ClassesAreContiguousTickRanges : Prop :=
  ∀ (p : Params) (t : Nat), p.Legal →
    (classify p t = .zero ↔ t * p.k < p.denom) ∧
    (classify p t = .one ↔ p.denom ≤ t * p.k ∧ t * p.k < 2 * p.denom) ∧
    (classify p t = .start ↔ 2 * p.denom ≤ t * p.k ∧ t * p.k < 3 * p.denom) ∧
    (classify p t = .ignore ↔ 3 * p.denom ≤ t * p.k)

/-- 40_classifier.md R117 (derived): `classify` by the thresholds `T1 <= T2 <= T3`. -/
def Obligations.ClassifyByThresholds : Prop :=
  ∀ (p : Params) (t : Nat), p.Legal →
    threshold p 1 ≤ threshold p 2 ∧ threshold p 2 ≤ threshold p 3 ∧
    classify p t =
      (if t < threshold p 1 then .zero
       else if t < threshold p 2 then .one
       else if t < threshold p 3 then .start
       else .ignore)

/-- 40_classifier.md R112, 30_encoding.md R94 (derived): a class that some measurement has is the class of its lowest tick
count, and no measurement of the class is lower. The choice of the lowest for a class token is the model's (log entry 17). -/
def Obligations.LowestTickHasItsClass : Prop :=
  ∀ (p : Params) (t : Nat), p.Legal →
    classify p (lowestTick p (classify p t)) = classify p t ∧ lowestTick p (classify p t) ≤ t

/-! ### The four SYM operations -/

/-- 41_bit_assembly.md R121: START writes `{0, 0, true}` and nothing else, from every state; two in a row leave the same state as
one; and in DEAD no step runs a pulse, so no START is observed there. -/
def Obligations.StartRestartsMessage : Prop :=
  (∀ s : State, exec .start s = .next { s with bitBuffer := 0x000#12, bitIndex := 0#4, messageValid := true }) ∧
  (∀ s t : State, exec .start s = .next t → exec .start t = .next t) ∧
  (∀ (s : State) (n : Nat), s.deadCnt ≠ 0 → fetch s ≠ .pulse n)

/-- 41_bit_assembly.md R122: ONE in ACCUMULATING sets the bit numbered by `bit_index` and increments it; at 11 it sets bit 11 and
finalization runs on the completed frame with `bit_index = 12`; under the invariant the bit was 0 before. Nothing else changes
(short of what `finalize` does, stated in FinalizingDataBit). States with `bit_index` above 11 are in IndexAboveElevenFinalizes. -/
def Obligations.OneTakesDataBit : Prop :=
  ∀ s : State, s.messageValid = true →
    (s.bitIndex.toNat ≤ 10 →
      exec .one s = .next { s with
        bitBuffer := s.bitBuffer ||| (1#12 <<< s.bitIndex.toNat), bitIndex := s.bitIndex + 1#4 }) ∧
    (s.bitIndex.toNat = 11 →
      exec .one s = .next (finalize { s with bitBuffer := s.bitBuffer ||| 0x800#12, bitIndex := 12#4 })) ∧
    (s.Inv → s.bitBuffer.getLsbD s.bitIndex.toNat = false)

/-- 41_bit_assembly.md R123: ZERO in ACCUMULATING increments `bit_index` and leaves `bit_buffer`; at 11 finalization runs in the
same step, and under the invariant the completed frame has bit 11 equal to 0. -/
def Obligations.ZeroTakesDataBit : Prop :=
  ∀ s : State, s.messageValid = true →
    (s.bitIndex.toNat ≤ 10 → exec .zero s = .next { s with bitIndex := s.bitIndex + 1#4 }) ∧
    (s.bitIndex.toNat = 11 → exec .zero s = .next (finalize { s with bitIndex := 12#4 })) ∧
    (s.Inv → s.bitBuffer.getLsbD s.bitIndex.toNat = false)

/-- 41_bit_assembly.md R124: IGNORE changes nothing, in every state. -/
def Obligations.IgnoreChangesNothing : Prop := ∀ s : State, exec .ignore s = .next s

/-- 41_bit_assembly.md R125, 60_exceptions.md R182: ONE or ZERO in WAITING writes nothing and emits nothing. -/
def Obligations.BitBeforeStartIgnored : Prop :=
  ∀ s : State, s.messageValid = false → exec .one s = .next s ∧ exec .zero s = .next s

/-- 42_finalize_translate.md R140 to R147, 41_bit_assembly.md R126 (derived: decisions D6, D7, D8, log entries 9 and 14):
the 12th data bit completes the frame, and the step leaves what that frame's finalization leaves. -/
def Obligations.FinalizingDataBit : Prop :=
  ∀ s : State, s.messageValid = true → s.bitIndex.toNat = 11 →
    exec .one s = .next (afterFrame (s.bitBuffer ||| 0x800#12) s) ∧ exec .zero s = .next (afterFrame s.bitBuffer s)

/-- 10_state.md R30 (derived: decision D15, log entry 7): with `bit_index` above 11, which no run reaches, a data bit sets no bit
and finalizes. -/
def Obligations.IndexAboveElevenFinalizes : Prop :=
  ∀ s : State, s.messageValid = true → 12 ≤ s.bitIndex.toNat →
    exec .one s = .next (afterFrame s.bitBuffer s) ∧ exec .zero s = .next (afterFrame s.bitBuffer s)

/-! ### Frames and the table -/

/-- 30_encoding.md R87, 42_finalize_translate.md R141: the two mask expressions, as bit fields, lose nothing. -/
def Obligations.FrameSplitLosesNothing : Prop :=
  ∀ f : FrameWord,
    (frameButton f).toNat = f.toNat &&& 0x7F ∧ (frameMode f).toNat = (f.toNat >>> 7) &&& 0x1F ∧
    frameButton f = f.extractLsb' 0 7 ∧ frameMode f = f.extractLsb' 7 5 ∧
    f.toNat = (frameMode f).toNat * 128 + (frameButton f).toNat

/-- 30_encoding.md R88 (derived): composition is the inverse of the split, both ways. -/
def Obligations.FrameComposeInvertsSplit : Prop :=
  (∀ (m : ModeCode) (b : Button), frameMode (composeFrame m b) = m ∧ frameButton (composeFrame m b) = b) ∧
  (∀ f : FrameWord, composeFrame (frameMode f) (frameButton f) = f)

/-- 20_memory.md R44 to R53: the ten digit keys; code 0x09 is the key 0. The bytes are those the rules print, ASCII (G1). -/
def Obligations.TableHoldsDigitKeys : Prop :=
  memRead 0x00#7 = 0x31#8 ∧ memRead 0x01#7 = 0x32#8 ∧ memRead 0x02#7 = 0x33#8 ∧ memRead 0x03#7 = 0x34#8 ∧
  memRead 0x04#7 = 0x35#8 ∧ memRead 0x05#7 = 0x36#8 ∧ memRead 0x06#7 = 0x37#8 ∧ memRead 0x07#7 = 0x38#8 ∧
  memRead 0x08#7 = 0x39#8 ∧ memRead 0x09#7 = 0x30#8

/-- 20_memory.md R54 to R61: the eight function keys. The bytes are those the rules print, ASCII (G1). -/
def Obligations.TableHoldsFunctionKeys : Prop :=
  memRead 0x10#7 = 0x5E#8 ∧ memRead 0x11#7 = 0x76#8 ∧ memRead 0x12#7 = 0x2B#8 ∧ memRead 0x13#7 = 0x2D#8 ∧
  memRead 0x14#7 = 0x6D#8 ∧ memRead 0x15#7 = 0x70#8 ∧ memRead 0x0B#7 = 0x0A#8 ∧ memRead 0x3B#7 = 0x63#8

/-- 20_memory.md R62: the 110 other addresses `0x0A`, `0x0C .. 0x0F`, `0x16 .. 0x3A`, `0x3C .. 0x7F` hold NUL, and these are
exactly the addresses that hold it. -/
def Obligations.TableHoldsNulElsewhere : Prop :=
  ∀ b : Button, memRead b = 0x00#8 ↔
    (b.toNat = 0x0A ∨ (0x0C ≤ b.toNat ∧ b.toNat ≤ 0x0F) ∨ (0x16 ≤ b.toNat ∧ b.toNat ≤ 0x3A) ∨ 0x3C ≤ b.toNat)

/-- 30_encoding.md R89, 42_finalize_translate.md R144 to R146 (derived: decisions D6, D7, D8, log entries 9 and 14): a digit key emits
its character, the dead time starts, the state returns to WAITING, and nothing else changes. -/
def Obligations.DigitKeysTransmit : Prop :=
  ∀ s : State,
    exec .key1 s = .next (afterKey 0x31#8 s) ∧ exec .key2 s = .next (afterKey 0x32#8 s) ∧
    exec .key3 s = .next (afterKey 0x33#8 s) ∧ exec .key4 s = .next (afterKey 0x34#8 s) ∧
    exec .key5 s = .next (afterKey 0x35#8 s) ∧ exec .key6 s = .next (afterKey 0x36#8 s) ∧
    exec .key7 s = .next (afterKey 0x37#8 s) ∧ exec .key8 s = .next (afterKey 0x38#8 s) ∧
    exec .key9 s = .next (afterKey 0x39#8 s) ∧ exec .key0 s = .next (afterKey 0x30#8 s)

/-- 30_encoding.md R89, 42_finalize_translate.md R144 to R146 (derived, as DigitKeysTransmit: decisions D6, D7, D8, log entries 9
and 14): the eight function keys. -/
def Obligations.FunctionKeysTransmit : Prop :=
  ∀ s : State,
    exec .keyChUp s = .next (afterKey 0x5E#8 s) ∧ exec .keyChDown s = .next (afterKey 0x76#8 s) ∧
    exec .keyVolUp s = .next (afterKey 0x2B#8 s) ∧ exec .keyVolDown s = .next (afterKey 0x2D#8 s) ∧
    exec .keyMute s = .next (afterKey 0x6D#8 s) ∧ exec .keyPower s = .next (afterKey 0x70#8 s) ∧
    exec .keyEnter s = .next (afterKey 0x0A#8 s) ∧ exec .keyClear s = .next (afterKey 0x63#8 s)

/-- 42_finalize_translate.md R144 to R146, 30_encoding.md R89, 60_exceptions.md R186, 20_memory.md R62 (derived: decision D6 and
conflict C3, log entry 9; decisions D7 and D8, log entry 14): an unlisted button with the accepted mode hands the byte 0x00 to the
transmitter, once; the dead time starts, the state returns to WAITING in the same step, and nothing else changes. -/
def Obligations.UnmappedKeyTransmitsNul : Prop :=
  ∀ (b : Button) (s : State), isListed b = false → exec (.keyUnmapped b) s = .next (afterKey 0x00#8 s)

/-- 60_exceptions.md R183, 42_finalize_translate.md R142, R145, R146, 30_encoding.md R89 (derived: decisions D7 and D8, log
entry 14): a completed frame with another mode is discarded with no output; the registers are cleared in the same step,
`dead_cnt` becomes `DEAD_CYCLES`, and nothing else changes. -/
def Obligations.WrongModeDiscards : Prop :=
  ∀ (m : ModeCode) (b : Button) (s : State), m ≠ 0x01#5 → exec (.msgWrongMode m b) s = .next (afterDiscard s)

/-- 42_finalize_translate.md R142, R144 to R146, 30_encoding.md R89 (derived: decisions D6, D7, D8, log entries 9 and 14): over all
4096 frames, the row a frame decodes to emits exactly when the mode is 0x01, and then exactly the table's byte for its button; both
ways the registers are cleared and the dead time starts. -/
def Obligations.FrameRowFollowsModeFilter : Prop :=
  ∀ (f : FrameWord) (s : State), ∃ t, exec (decode (.frame f)) s = .next t ∧
    t.txTrace = s.txTrace ++ (if frameMode f = 0x01#5 then [memRead (frameButton f)] else []) ∧
    t.bitBuffer = 0x000#12 ∧ t.bitIndex = 0#4 ∧ t.messageValid = false ∧ t.deadCnt = s.cfg.deadCycles

/-- 42_finalize_translate.md R140, 30_encoding.md R89 (derived): finalization of the frame in `bit_buffer` is the row that frame
decodes to. -/
def Obligations.FinalizeRunsDecodedFrame : Prop :=
  ∀ s : State, exec (decode (.frame s.bitBuffer)) s = .next (finalize s) ∧ finalize s = afterFrame s.bitBuffer s

/-! ### The four CTL operations -/

/-- 43_system_step.md R162 (derived: decisions D10, D11): RESET clears the four registers; no byte, no symbol, `busy` as the state
before had it. -/
def Obligations.ResetOperation : Prop :=
  ∀ s : State, exec .reset s = .next { s with
    bitBuffer := 0x000#12, bitIndex := 0#4, messageValid := false, deadCnt := 0,
    out := { tx := none, busy := decide (s.deadCnt ≠ 0), sym := none } }

/-- 43_system_step.md R163 (derived: decisions D7, D9): DEAD_TICK decrements `dead_cnt` and writes no other register; busy, no
byte, no symbol. -/
def Obligations.DeadTickOperation : Prop :=
  ∀ s : State, s.deadCnt ≠ 0 → exec .deadTick s = .next { s with
    deadCnt := s.deadCnt - 1, out := { tx := none, busy := true, sym := none } }

/-- 43_system_step.md R164 (derived: decision D1): IDLE leaves every register; all strobes are 0. -/
def Obligations.IdleOperation : Prop :=
  ∀ s : State, s.deadCnt = 0 → exec .idle s = .next { s with out := { tx := none, busy := false, sym := none } }

/-- 43_system_step.md R165 (derived: decision D1): PULSE classifies the measurement, shows its code, and does what the SYM operation
of that class does. -/
def Obligations.PulseRunsItsSymbol : Prop :=
  ∀ (n : Nat) (s : State), s.deadCnt = 0 → ∃ t, exec (.pulse n) s = .next t ∧
    exec (symInstr (classify s.cfg n))
      { s with out := { tx := none, busy := false, sym := some (symCode (classify s.cfg n)) } } = .next t ∧
    t.out.busy = false ∧ t.out.sym = some (symCode (classify s.cfg n))

/-- 60_exceptions.md R188, R189, 93_implementation_defined.md U3 (derived: decisions D9, D11): in a reset step, and in the dead
time, the step does not depend on `pulse_valid` or `raw_ticks`. -/
def Obligations.MaskedPulseIsLost : Prop :=
  ∀ (s : State) (rst v w : Bool) (a b : Nat) (rest : List Input), (rst = true ∨ s.deadCnt ≠ 0) →
    step { s with inputs := { rst := rst, pulseValid := v, rawTicks := a } :: rest } =
    step { s with inputs := { rst := rst, pulseValid := w, rawTicks := b } :: rest }

/-! ### Runs -/

/-- 43_system_step.md R163, 70_reset_and_hazards.md R225 (derived): while the dead time runs, any inputs without a reset, pulses
included, only count it down. -/
def Obligations.DeadTimeDropsEveryPulse : Prop :=
  ∀ (s : State) (ins rest : List Input), s.inputs = ins ++ rest → ins.length ≤ s.deadCnt →
    (∀ i ∈ ins, i.rst = false) →
    ∃ t, Host.Core.run core ins.length s = .next t ∧ t.inputs = rest ∧ t.deadCnt = s.deadCnt - ins.length ∧
      t.bitBuffer = s.bitBuffer ∧ t.bitIndex = s.bitIndex ∧ t.messageValid = s.messageValid ∧ t.txTrace = s.txTrace

/-- 43_system_step.md R164, 70_reset_and_hazards.md R229 (derived): outside the dead time, any number of IDLE steps and IGNORE
pulses change no register and emit nothing: there is no timeout. -/
def Obligations.QuietInputsChangeNothing : Prop :=
  ∀ (s : State) (ins rest : List Input), s.inputs = ins ++ rest → s.deadCnt = 0 →
    (∀ i ∈ ins, i.quiet s.cfg = true) →
    ∃ t, Host.Core.run core ins.length s = .next t ∧ t.inputs = rest ∧ t.deadCnt = 0 ∧
      t.bitBuffer = s.bitBuffer ∧ t.bitIndex = s.bitIndex ∧ t.messageValid = s.messageValid ∧ t.txTrace = s.txTrace

/-- 42_finalize_translate.md R148, 43_system_step.md R168 (derived): a step emits at most one byte, and emits one only when it
observes the 12th data pulse of a message whose mode is 0x01; the byte is the table's for its button. -/
def Obligations.EmissionOnlyByTwelfthDataPulse : Prop :=
  ∀ s t : State, s.Inv → step s = .next t →
    (t.txTrace = s.txTrace ∧ t.out.tx = none) ∨
    (∃ f : FrameWord, t.txTrace = s.txTrace ++ [memRead (frameButton f)] ∧ t.out.tx = some (memRead (frameButton f)) ∧
      frameMode f = 0x01#5 ∧ s.messageValid = true ∧ s.bitIndex = 11#4 ∧
      ((s.observes .one ∧ f = s.bitBuffer ||| 0x800#12) ∨ (s.observes .zero ∧ f = s.bitBuffer)))

/-- 10_state.md R24, 42_finalize_translate.md R145 (derived): a dead time begins only in a step that observes the 12th data
pulse, and begins with `DEAD_CYCLES`; one that runs goes down by one in each step without a reset, and a reset ends it. -/
def Obligations.DeadTimeOnlyFromFinalization : Prop :=
  ∀ s t : State, s.Inv → step s = .next t →
    (s.deadCnt = 0 → t.deadCnt ≠ 0 →
      t.deadCnt = s.cfg.deadCycles ∧ s.messageValid = true ∧ s.bitIndex = 11#4 ∧ (s.observes .one ∨ s.observes .zero)) ∧
    (s.deadCnt ≠ 0 → t.deadCnt = if (nextInput s).rst then 0 else s.deadCnt - 1)

/-- 10_state.md R23, 43_system_step.md R165 (derived): only an observed START opens a message. -/
def Obligations.OnlyStartOpensMessage : Prop :=
  ∀ s t : State, step s = .next t → s.messageValid = false → t.messageValid = true →
    s.observes .start ∧ t.bitIndex = 0#4 ∧ t.bitBuffer = 0x000#12

/-- 41_bit_assembly.md R129, 70_reset_and_hazards.md R229 (derived; conflict C4): a message in progress ends only by a reset or by
its 12th data pulse. -/
def Obligations.MessageEndsOnlyByResetOrTwelfthBit : Prop :=
  ∀ s t : State, s.Inv → step s = .next t → s.messageValid = true → t.messageValid = false →
    (nextInput s).rst = true ∨ (s.bitIndex = 11#4 ∧ (s.observes .one ∨ s.observes .zero))

/-- 43_system_step.md R166, R167 (derived: decision D1): `busy` is `dead_cnt != 0` before the step, and a symbol is shown exactly
when a pulse is observed, by its code. -/
def Obligations.BusyAndSymbolOutputs : Prop :=
  ∀ s t : State, step s = .next t →
    t.out.busy = decide (s.deadCnt ≠ 0) ∧ (∀ c : PulseClass, t.out.sym = some (symCode c) ↔ s.observes c)

/-- 42_finalize_translate.md R149 (derived; holds under both readings of conflict C3): a step adds to the visible characters
nothing, or the character of one listed button. -/
def Obligations.VisibleOnlyListedCharacters : Prop :=
  ∀ s t : State, step s = .next t →
    visible t.txTrace = visible s.txTrace ∨
    ∃ b : Button, isListed b = true ∧ visible t.txTrace = visible s.txTrace ++ [memRead b]

/-- 41_bit_assembly.md R129, 43_system_step.md R161, R170 (derived): one step of the registers is one step of the event-level
decoder that keeps the bits of a message as a list. -/
def Obligations.StepRefinesEventDecoder : Prop :=
  ∀ s t : State, s.Inv → step s = .next t → t.block = s.block.step s.cfg (nextInput s)

/-- 43_system_step.md R170 (derived): a run over any listed inputs completes, and is the fold of the event-level decoder over
them: registers, dead time and transmit trace. -/
def Obligations.RunRefinesEventDecoder : Prop :=
  ∀ (s : State) (ins rest : List Input), s.Inv → s.inputs = ins ++ rest →
    ∃ t, Host.Core.run core ins.length s = .next t ∧ t.Inv ∧ t.inputs = rest ∧
      t.block = ins.foldl (fun b i => b.step s.cfg i) s.block

/-- 43_system_step.md R170 (derived: decision D19): with `DEAD_CYCLES = 0` and no reset the block is `on_pulse` of the class of
each pulse in turn. -/
def Obligations.WithoutDeadTimeEveryPulseIsObserved : Prop :=
  ∀ (s : State) (ins rest : List Input), s.cfg.deadCycles = 0 → s.deadCnt = 0 → s.inputs = ins ++ rest →
    (∀ i ∈ ins, i.rst = false) →
    ∃ t, Host.Core.run core ins.length s = .next t ∧
      (let u := (pulseClasses s.cfg ins).foldl (fun u c => onPulse c u) s
       t.bitBuffer = u.bitBuffer ∧ t.bitIndex = u.bitIndex ∧ t.messageValid = u.messageValid ∧
       t.deadCnt = 0 ∧ t.txTrace = u.txTrace)

/-- 42_finalize_translate.md R150, R147, 30_encoding.md R86 (derived): from any state outside the dead time, a START and the 12 data
pulses of a frame, with any IDLE steps and IGNORE pulses among them, end in WAITING with the dead time started, and emit exactly
`TABLE[button]` when the mode is 0x01 and nothing otherwise. -/
def Obligations.MessageRoundTrip : Prop :=
  ∀ (s : State) (pre : List Input) (last : Input) (rest : List Input) (f : FrameWord),
    s.deadCnt = 0 → s.inputs = pre ++ last :: rest → (∀ i ∈ pre, i.rst = false) → last.rst = false →
    last.pulseValid = true → last.pulseClass s.cfg ≠ .ignore →
    countedClasses s.cfg (pre ++ [last]) = messageClasses f →
    ∃ t, Host.Core.run core (pre.length + 1) s = .next t ∧ t.inputs = rest ∧
      t.bitBuffer = 0x000#12 ∧ t.bitIndex = 0#4 ∧ t.messageValid = false ∧ t.deadCnt = s.cfg.deadCycles ∧
      t.txTrace = s.txTrace ++ (if frameMode f = 0x01#5 then [memRead (frameButton f)] else [])

/-! ### Encoding -/

/-- 30_encoding.md R83, R88, R89, R90 (derived): for every well-formed instruction, with every operand, decoding its word gives it
back. -/
def Obligations.DecodeEncodeIsIdentity : Prop :=
  ∀ (p : Params) (i : Instr), i.wf p = true → decode (encode i) = i

/-- 30_encoding.md R83, R85, R90 (derived): the other direction: a SYM or FRAME word is the encoding of its instruction, and so is
a CTL word but for its don't-care bits and, where no pulse is taken, the TICK word beside it. -/
def Obligations.EncodeDecodeIsIdentity : Prop :=
  (∀ w : SymWord, encode (decode (.sym w)) = .sym w) ∧ (∀ w : FrameWord, encode (decode (.frame w)) = .frame w) ∧
  (∀ (w : CtlWord) (n : Nat), ∃ (v : CtlWord) (m : Nat), encode (decode (.ctl w n)) = .ctl v m ∧
    decode (.ctl v m) = decode (.ctl w n) ∧ v &&& w = v ∧ (w = 0b001#3 → v = w ∧ m = n))

/-- 30_encoding.md R92 (derived): every word of every format decodes to a well-formed instruction. -/
def Obligations.DecodedIsWellFormed : Prop :=
  ∀ p : Params, (∀ (w : CtlWord) (n : Nat), n < 2 ^ p.tickW → (decode (.ctl w n)).wf p = true) ∧
    (∀ w : SymWord, (decode (.sym w)).wf p = true) ∧ (∀ w : FrameWord, (decode (.frame w)).wf p = true)

/-- 30_encoding.md R96 (derived): the decoder is the opcode table, rows tried in file order within a format, the first match
winning. -/
def Obligations.DecoderIsFirstTableMatch : Prop :=
  ∀ c : Code, (firstRow c).map (fun r => r.mnemonic) = some (decode c).mnemonic

/-- 30_encoding.md R90 (derived: decision D11): the control word `{rst, dead, pulse_valid}` by priority. -/
def Obligations.ControlWordPriority : Prop :=
  ∀ (rst dead pv : Bool) (n : Nat), decode (.ctl (ctlWord rst dead pv) n) =
    (if rst then .reset else if dead then .deadTick else if pv then .pulse n else .idle)

/-- Words written out from the spec's encodings (30_encoding.md R83, R89, R90): a sanity statement. -/
def Obligations.WrittenWordsDecode : Prop :=
  decode (.ctl 0b110#3 0) = .reset ∧ decode (.ctl 0b011#3 0) = .deadTick ∧ decode (.ctl 0b001#3 2400) = .pulse 2400 ∧
  decode (.sym 0b10#2) = .start ∧ decode (.frame 0b000010010101#12) = .keyPower ∧
  decode (.frame 0b000010001010#12) = .keyUnmapped 0b0001010#7 ∧
  decode (.frame 0b000100010101#12) = .msgWrongMode 0b00010#5 0b0010101#7

/-- 30_encoding.md R86, R88 (derived): a message is 13 classes, START first, and its data classes carry the frame least
significant bit first. -/
def Obligations.MessageCarriesFrame : Prop :=
  ∀ f : FrameWord, (messageClasses f).length = 13 ∧ (messageClasses f).head? = some .start ∧
    bitsValue ((messageClasses f).tail.map (fun c => decide (c = .one))) = f.toNat ∧
    (∀ c ∈ (messageClasses f).tail, c = .one ∨ c = .zero)

/-- 30_encoding.md R94, R95 (derived: decision D16): where the port can show a START and a ONE, the tokens of `MSG(b, m)` deliver the
message of its frame; `KEY(b)` is the message of `0x080 | b`. -/
def Obligations.MessageTokensCarryFrame : Prop :=
  ∀ (p : Params) (b : Button) (m : ModeCode), p.Legal →
    (∃ n, n < 2 ^ p.tickW ∧ classify p n = .start) → (∃ n, n < 2 ^ p.tickW ∧ classify p n = .one) →
    pulseClasses p ((msgTokens b m).map (tokenInput p)) = messageClasses (composeFrame m b) ∧
    pulseClasses p ((keyTokens b).map (tokenInput p)) = messageClasses (0x080#12 ||| b.setWidth 12)

/-- 00_scope.md R11 (derived: decision D7): `DEAD_W` is the least width, at least 1, with `DEAD_CYCLES < 2^DEAD_W`; a counter that
keeps the invariant fits it. -/
def Obligations.DeadWidthIsLeast : Prop :=
  ∀ p : Params, 1 ≤ p.deadW ∧ p.deadCycles < 2 ^ p.deadW ∧ (∀ w, 1 ≤ w → p.deadCycles < 2 ^ w → p.deadW ≤ w) ∧
    (∀ s : State, s.Inv → s.cfg = p → s.deadCnt < 2 ^ p.deadW)
end

