-- ==== Sys2Proof/Laws/State.lean ====
section
/-! SUPPORT. What each register update does to each field of the state, so that no later proof unfolds one. -/

namespace Sys2Proof.Machine

/-! ### `openOutputs` -/

@[simp] theorem openOutputs_bitBuffer (s : State) : (openOutputs s).bitBuffer = s.bitBuffer := rfl
@[simp] theorem openOutputs_bitIndex (s : State) : (openOutputs s).bitIndex = s.bitIndex := rfl
@[simp] theorem openOutputs_messageValid (s : State) : (openOutputs s).messageValid = s.messageValid := rfl
@[simp] theorem openOutputs_deadCnt (s : State) : (openOutputs s).deadCnt = s.deadCnt := rfl
@[simp] theorem openOutputs_cfg (s : State) : (openOutputs s).cfg = s.cfg := rfl
@[simp] theorem openOutputs_inputs (s : State) : (openOutputs s).inputs = s.inputs := rfl
@[simp] theorem openOutputs_freeCount (s : State) : (openOutputs s).freeCount = s.freeCount := rfl
@[simp] theorem openOutputs_out (s : State) : (openOutputs s).out = { tx := none, busy := isDead s, sym := none } := rfl
@[simp] theorem openOutputs_txTrace (s : State) : (openOutputs s).txTrace = s.txTrace := rfl

/-! ### `showSym` -/

@[simp] theorem showSym_bitBuffer (c : PulseClass) (s : State) : (showSym c s).bitBuffer = s.bitBuffer := rfl
@[simp] theorem showSym_bitIndex (c : PulseClass) (s : State) : (showSym c s).bitIndex = s.bitIndex := rfl
@[simp] theorem showSym_messageValid (c : PulseClass) (s : State) : (showSym c s).messageValid = s.messageValid := rfl
@[simp] theorem showSym_deadCnt (c : PulseClass) (s : State) : (showSym c s).deadCnt = s.deadCnt := rfl
@[simp] theorem showSym_cfg (c : PulseClass) (s : State) : (showSym c s).cfg = s.cfg := rfl
@[simp] theorem showSym_inputs (c : PulseClass) (s : State) : (showSym c s).inputs = s.inputs := rfl
@[simp] theorem showSym_freeCount (c : PulseClass) (s : State) : (showSym c s).freeCount = s.freeCount := rfl
@[simp] theorem showSym_out (c : PulseClass) (s : State) : (showSym c s).out = { s.out with sym := some (symCode c) } := rfl
@[simp] theorem showSym_txTrace (c : PulseClass) (s : State) : (showSym c s).txTrace = s.txTrace := rfl

/-! ### `emit` -/

@[simp] theorem emit_bitBuffer (b : Byte) (s : State) : (emit b s).bitBuffer = s.bitBuffer := rfl
@[simp] theorem emit_bitIndex (b : Byte) (s : State) : (emit b s).bitIndex = s.bitIndex := rfl
@[simp] theorem emit_messageValid (b : Byte) (s : State) : (emit b s).messageValid = s.messageValid := rfl
@[simp] theorem emit_deadCnt (b : Byte) (s : State) : (emit b s).deadCnt = s.deadCnt := rfl
@[simp] theorem emit_cfg (b : Byte) (s : State) : (emit b s).cfg = s.cfg := rfl
@[simp] theorem emit_inputs (b : Byte) (s : State) : (emit b s).inputs = s.inputs := rfl
@[simp] theorem emit_freeCount (b : Byte) (s : State) : (emit b s).freeCount = s.freeCount := rfl
@[simp] theorem emit_out (b : Byte) (s : State) : (emit b s).out = { s.out with tx := some b } := rfl
@[simp] theorem emit_txTrace (b : Byte) (s : State) : (emit b s).txTrace = s.txTrace ++ [b] := rfl

/-! ### `clearMessage` -/

@[simp] theorem clearMessage_bitBuffer (v : Bool) (s : State) : (clearMessage v s).bitBuffer = 0x000#12 := rfl
@[simp] theorem clearMessage_bitIndex (v : Bool) (s : State) : (clearMessage v s).bitIndex = 0#4 := rfl
@[simp] theorem clearMessage_messageValid (v : Bool) (s : State) : (clearMessage v s).messageValid = v := rfl
@[simp] theorem clearMessage_deadCnt (v : Bool) (s : State) : (clearMessage v s).deadCnt = s.deadCnt := rfl
@[simp] theorem clearMessage_cfg (v : Bool) (s : State) : (clearMessage v s).cfg = s.cfg := rfl
@[simp] theorem clearMessage_inputs (v : Bool) (s : State) : (clearMessage v s).inputs = s.inputs := rfl
@[simp] theorem clearMessage_freeCount (v : Bool) (s : State) : (clearMessage v s).freeCount = s.freeCount := rfl
@[simp] theorem clearMessage_out (v : Bool) (s : State) : (clearMessage v s).out = s.out := rfl
@[simp] theorem clearMessage_txTrace (v : Bool) (s : State) : (clearMessage v s).txTrace = s.txTrace := rfl

/-! ### `setDead` -/

@[simp] theorem setDead_bitBuffer (n : Nat) (s : State) : (setDead n s).bitBuffer = s.bitBuffer := rfl
@[simp] theorem setDead_bitIndex (n : Nat) (s : State) : (setDead n s).bitIndex = s.bitIndex := rfl
@[simp] theorem setDead_messageValid (n : Nat) (s : State) : (setDead n s).messageValid = s.messageValid := rfl
@[simp] theorem setDead_deadCnt (n : Nat) (s : State) : (setDead n s).deadCnt = n := rfl
@[simp] theorem setDead_cfg (n : Nat) (s : State) : (setDead n s).cfg = s.cfg := rfl
@[simp] theorem setDead_inputs (n : Nat) (s : State) : (setDead n s).inputs = s.inputs := rfl
@[simp] theorem setDead_freeCount (n : Nat) (s : State) : (setDead n s).freeCount = s.freeCount := rfl
@[simp] theorem setDead_out (n : Nat) (s : State) : (setDead n s).out = s.out := rfl
@[simp] theorem setDead_txTrace (n : Nat) (s : State) : (setDead n s).txTrace = s.txTrace := rfl

/-! ### `markBit` -/

@[simp] theorem markBit_bitBuffer (s : State) : (markBit s).bitBuffer = setBit s.bitBuffer s.bitIndex.toNat := rfl
@[simp] theorem markBit_bitIndex (s : State) : (markBit s).bitIndex = s.bitIndex := rfl
@[simp] theorem markBit_messageValid (s : State) : (markBit s).messageValid = s.messageValid := rfl
@[simp] theorem markBit_deadCnt (s : State) : (markBit s).deadCnt = s.deadCnt := rfl
@[simp] theorem markBit_cfg (s : State) : (markBit s).cfg = s.cfg := rfl
@[simp] theorem markBit_inputs (s : State) : (markBit s).inputs = s.inputs := rfl
@[simp] theorem markBit_freeCount (s : State) : (markBit s).freeCount = s.freeCount := rfl
@[simp] theorem markBit_out (s : State) : (markBit s).out = s.out := rfl
@[simp] theorem markBit_txTrace (s : State) : (markBit s).txTrace = s.txTrace := rfl

/-! ### `endMessage` -/

@[simp] theorem endMessage_bitBuffer (s : State) : (endMessage s).bitBuffer = 0x000#12 := rfl
@[simp] theorem endMessage_bitIndex (s : State) : (endMessage s).bitIndex = 0#4 := rfl
@[simp] theorem endMessage_messageValid (s : State) : (endMessage s).messageValid = false := rfl
@[simp] theorem endMessage_deadCnt (s : State) : (endMessage s).deadCnt = s.cfg.deadCycles := rfl
@[simp] theorem endMessage_cfg (s : State) : (endMessage s).cfg = s.cfg := rfl
@[simp] theorem endMessage_inputs (s : State) : (endMessage s).inputs = s.inputs := rfl
@[simp] theorem endMessage_freeCount (s : State) : (endMessage s).freeCount = s.freeCount := rfl
@[simp] theorem endMessage_out (s : State) : (endMessage s).out = s.out := rfl
@[simp] theorem endMessage_txTrace (s : State) : (endMessage s).txTrace = s.txTrace := rfl

/-! ### `deliver` -/

@[simp] theorem deliver_bitBuffer (b : Button) (s : State) : (deliver b s).bitBuffer = 0x000#12 := rfl
@[simp] theorem deliver_bitIndex (b : Button) (s : State) : (deliver b s).bitIndex = 0#4 := rfl
@[simp] theorem deliver_messageValid (b : Button) (s : State) : (deliver b s).messageValid = false := rfl
@[simp] theorem deliver_deadCnt (b : Button) (s : State) : (deliver b s).deadCnt = s.cfg.deadCycles := rfl
@[simp] theorem deliver_cfg (b : Button) (s : State) : (deliver b s).cfg = s.cfg := rfl
@[simp] theorem deliver_inputs (b : Button) (s : State) : (deliver b s).inputs = s.inputs := rfl
@[simp] theorem deliver_freeCount (b : Button) (s : State) : (deliver b s).freeCount = s.freeCount := rfl
@[simp] theorem deliver_out (b : Button) (s : State) : (deliver b s).out = { s.out with tx := some (memRead b) } := rfl
@[simp] theorem deliver_txTrace (b : Button) (s : State) : (deliver b s).txTrace = s.txTrace ++ [memRead b] := rfl

/-! ### `presentInput` -/

@[simp] theorem presentInput_bitBuffer (i : Input) (s : State) : (presentInput i s).bitBuffer = s.bitBuffer := rfl
@[simp] theorem presentInput_bitIndex (i : Input) (s : State) : (presentInput i s).bitIndex = s.bitIndex := rfl
@[simp] theorem presentInput_messageValid (i : Input) (s : State) : (presentInput i s).messageValid = s.messageValid := rfl
@[simp] theorem presentInput_deadCnt (i : Input) (s : State) : (presentInput i s).deadCnt = s.deadCnt := rfl
@[simp] theorem presentInput_cfg (i : Input) (s : State) : (presentInput i s).cfg = s.cfg := rfl
@[simp] theorem presentInput_inputs (i : Input) (s : State) : (presentInput i s).inputs = i :: s.inputs.drop 1 := rfl
@[simp] theorem presentInput_freeCount (i : Input) (s : State) : (presentInput i s).freeCount = s.freeCount := rfl
@[simp] theorem presentInput_out (i : Input) (s : State) : (presentInput i s).out = s.out := rfl
@[simp] theorem presentInput_txTrace (i : Input) (s : State) : (presentInput i s).txTrace = s.txTrace := rfl

/-! ### `consumeInput` -/

@[simp] theorem consumeInput_bitBuffer (s : State) : (consumeInput s).bitBuffer = s.bitBuffer := by
  unfold consumeInput; split <;> rfl
@[simp] theorem consumeInput_bitIndex (s : State) : (consumeInput s).bitIndex = s.bitIndex := by
  unfold consumeInput; split <;> rfl
@[simp] theorem consumeInput_messageValid (s : State) : (consumeInput s).messageValid = s.messageValid := by
  unfold consumeInput; split <;> rfl
@[simp] theorem consumeInput_deadCnt (s : State) : (consumeInput s).deadCnt = s.deadCnt := by
  unfold consumeInput; split <;> rfl
@[simp] theorem consumeInput_cfg (s : State) : (consumeInput s).cfg = s.cfg := by
  unfold consumeInput; split <;> rfl
@[simp] theorem consumeInput_out (s : State) : (consumeInput s).out = s.out := by
  unfold consumeInput; split <;> rfl
@[simp] theorem consumeInput_txTrace (s : State) : (consumeInput s).txTrace = s.txTrace := by
  unfold consumeInput; split <;> rfl
@[simp] theorem consumeInput_inputs (s : State) : (consumeInput s).inputs = s.inputs.tail := by
  unfold consumeInput; split <;> simp_all
theorem consumeInput_cons {s : State} {i : Input} {rest : List Input} (h : s.inputs = i :: rest) :
    consumeInput s = { s with inputs := rest } := by simp [consumeInput, h]
theorem consumeInput_nil {s : State} (h : s.inputs = []) :
    consumeInput s = { s with freeCount := s.freeCount + 1 } := by simp [consumeInput, h]
theorem nextInput_cons {s : State} {i : Input} {rest : List Input} (h : s.inputs = i :: rest) :
    nextInput s = { i with rawTicks := i.rawTicks % 2 ^ s.cfg.tickW } := by simp [nextInput, h]

end Sys2Proof.Machine
end

