-- ==== Sys2Proof/Laws/Ops.lean ====
section
/-! SUPPORT. What each shared operation does, said once: the data bit, finalization, one pulse, one step; the
canonical form of the table; the quantization as inequalities. -/

namespace Sys2Proof.Machine

/-! ### The table -/

/-- The table is in canonical form. -/
theorem tableCells_wf : tableCells.wf = true := by decide

/-- An address with no cell reads as NUL, and a listed one does not. -/
theorem memRead_eq_nul_iff : ∀ b : Button, memRead b = Config.nul ↔ isListed b = false := by decide

/-- A frame has an exact row just when its mode is the accepted one and its button is listed. -/
theorem isListed_keyRow : ∀ r ∈ keyRows, frameMode r.1 = Config.acceptMode ∧ isListed (frameButton r.1) = true := by decide

/-! ### The quantization -/

/-- `q = n` exactly when `n * DENOM <= raw_ticks * K < (n + 1) * DENOM` (30_encoding.md R84). -/
theorem quantize_eq_iff {p : Params} (h : p.Legal) (t n : Nat) :
    quantize p t = n ↔ n * p.denom ≤ t * p.k ∧ t * p.k < (n + 1) * p.denom := by
  have hd : 0 < p.denom := h.2.2
  unfold quantize
  constructor
  · rintro rfl
    exact ⟨Nat.div_mul_le_self _ _, by rw [Nat.mul_comm (_ + 1)]; exact Nat.lt_mul_div_succ _ hd⟩
  · rintro ⟨h1, h2⟩
    exact Nat.div_eq_of_lt_le h1 h2

/-- `q` is monotone in the measurement (40_classifier.md R116). -/
theorem quantize_mono (p : Params) {t u : Nat} (h : t ≤ u) : quantize p t ≤ quantize p u :=
  Nat.div_le_div_right (Nat.mul_le_mul_right _ h)

/-- The code of the class is `min(q, 3)` (30_encoding.md R83). -/
theorem symCode_classify (p : Params) (t : Nat) : (symCode (classify p t)).toNat = min (quantize p t) 3 := by
  unfold classify
  split
  · simp [symCode, *]
  · split
    · simp [symCode, *]
    · split
      · simp [symCode, *]
      · simp only [symCode]
        have : 3 ≤ quantize p t := by omega
        simp [Nat.min_eq_right this]

/-! ### Finalization -/

/-- The split, as arithmetic on the frame's number (30_encoding.md R87). -/
theorem frameMode_eq_accept (f : FrameWord) : frameMode f = Config.acceptMode ↔ f.toNat / 128 = 1 := by
  have hf := f.isLt
  have hm : (frameMode f).toNat = f.toNat / 128 := by
    simp only [frameMode, BitVec.toNat_setWidth, BitVec.toNat_and, BitVec.toNat_ushiftRight, BitVec.toNat_ofNat]
    rw [Nat.shiftRight_eq_div_pow, show (31 % 2 ^ 12 : Nat) = 2 ^ 5 - 1 from rfl, Nat.and_two_pow_sub_one_eq_mod]
    omega
  rw [← BitVec.toNat_inj, hm]
  simp [Config.acceptMode]

theorem frameButton_eq (f : FrameWord) : frameButton f = BitVec.ofNat 7 (f.toNat % 128) := by
  apply BitVec.eq_of_toNat_eq
  simp only [frameButton, BitVec.toNat_setWidth, BitVec.toNat_and, BitVec.toNat_ofNat]
  rw [show (127 % 2 ^ 12 : Nat) = 2 ^ 7 - 1 from rfl, Nat.and_two_pow_sub_one_eq_mod]

/-- Finalization leaves what its frame leaves (42_finalize_translate.md R140). -/
theorem finalize_eq (s : State) : finalize s = afterFrame s.bitBuffer s := by
  unfold finalize afterFrame
  by_cases h : frameMode s.bitBuffer = Config.acceptMode
  · rw [if_pos h, if_pos ((frameMode_eq_accept _).1 h), frameButton_eq]; rfl
  · rw [if_neg h, if_neg (mt (frameMode_eq_accept _).2 h)]; rfl

/-- What a finalization of a frame leaves in each register and in the trace. -/
theorem afterFrame_fields (f : FrameWord) (s : State) :
    (afterFrame f s).bitBuffer = 0x000#12 ∧ (afterFrame f s).bitIndex = 0#4 ∧ (afterFrame f s).messageValid = false ∧
    (afterFrame f s).deadCnt = s.cfg.deadCycles ∧ (afterFrame f s).cfg = s.cfg ∧ (afterFrame f s).inputs = s.inputs ∧
    (afterFrame f s).freeCount = s.freeCount ∧
    (afterFrame f s).txTrace = s.txTrace ++ (if frameMode f = Config.acceptMode then [memRead (frameButton f)] else []) ∧
    (afterFrame f s).out =
      (if frameMode f = Config.acceptMode then { s.out with tx := some (memRead (frameButton f)) } else s.out) := by
  unfold afterFrame
  by_cases h : frameMode f = Config.acceptMode
  · rw [if_pos ((frameMode_eq_accept _).1 h)]; simp [h, afterKey, frameButton_eq]
  · rw [if_neg (mt (frameMode_eq_accept _).2 h)]; simp [h, afterDiscard]

/-! ### One data bit, one pulse -/

theorem takeBit_waiting {s : State} (v : Bool) (h : s.messageValid = false) : takeBit v s = s := by simp [takeBit, h]

/-- A data bit before the 12th: written at `bit_index`, which goes up by one. -/
theorem takeBit_next {s : State} (v : Bool) (h : s.messageValid = true) (hi : s.bitIndex.toNat ≤ 10) :
    takeBit v s = { s with
      bitBuffer := if v then setBit s.bitBuffer s.bitIndex.toNat else s.bitBuffer, bitIndex := s.bitIndex + 1#4 } := by
  have hg : guardHolds s.bitIndex = false := by simp [guardHolds, Config.finalGuard]; omega
  cases v <;> simp [takeBit, h, advance, markBit, hg]

/-- A data bit at `bit_index` 11 or more: finalization of the frame with that bit written. -/
theorem takeBit_final {s : State} (v : Bool) (h : s.messageValid = true) (hi : 11 ≤ s.bitIndex.toNat) :
    takeBit v s = afterFrame (if v then setBit s.bitBuffer s.bitIndex.toNat else s.bitBuffer) s := by
  have hg : guardHolds s.bitIndex = true := by simp [guardHolds, Config.finalGuard]; omega
  cases v <;> simp [takeBit, h, advance, hg, finalize_eq]
  unfold afterFrame; split <;> rfl

/-- Everything one data bit can do. -/
theorem takeBit_cases (v : Bool) (s : State) :
    (s.messageValid = false ∧ takeBit v s = s) ∨
    (s.messageValid = true ∧ s.bitIndex.toNat ≤ 10 ∧ takeBit v s = { s with
      bitBuffer := if v then setBit s.bitBuffer s.bitIndex.toNat else s.bitBuffer, bitIndex := s.bitIndex + 1#4 }) ∨
    (s.messageValid = true ∧ 11 ≤ s.bitIndex.toNat ∧
      takeBit v s = afterFrame (if v then setBit s.bitBuffer s.bitIndex.toNat else s.bitBuffer) s) := by
  by_cases hm : s.messageValid = true
  · rcases Nat.lt_or_ge s.bitIndex.toNat 11 with hi | hi
    · exact .inr (.inl ⟨hm, by omega, takeBit_next v hm (by omega)⟩)
    · exact .inr (.inr ⟨hm, hi, takeBit_final v hm hi⟩)
  · have hm' : s.messageValid = false := by simpa using hm
    exact .inl ⟨hm', takeBit_waiting v hm'⟩

/-- The SYM operation of a class is `on_pulse` of it (41_bit_assembly.md R120). -/
theorem exec_symInstr (c : PulseClass) (s : State) : exec (symInstr c) s = .next (onPulse c s) := by cases c <;> rfl

/-- Everything one pulse can do: nothing; a restart; one more bit; the completion of a frame. -/
theorem onPulse_cases (c : PulseClass) (s : State) :
    ((c = .ignore ∨ s.messageValid = false) ∧ onPulse c s = s) ∨
    (c = .start ∧ onPulse c s = clearMessage true s) ∨
    (∃ v, c = bitClass v ∧ s.messageValid = true ∧ s.bitIndex.toNat ≤ 10 ∧ onPulse c s = { s with
      bitBuffer := if v then setBit s.bitBuffer s.bitIndex.toNat else s.bitBuffer, bitIndex := s.bitIndex + 1#4 }) ∨
    (∃ v, c = bitClass v ∧ s.messageValid = true ∧ 11 ≤ s.bitIndex.toNat ∧
      onPulse c s = afterFrame (if v then setBit s.bitBuffer s.bitIndex.toNat else s.bitBuffer) s) := by
  have bit : ∀ v, onPulse (bitClass v) s = takeBit v s := fun v => by cases v <;> rfl
  cases c with
  | start => exact .inr (.inl ⟨rfl, rfl⟩)
  | ignore => exact .inl ⟨.inl rfl, rfl⟩
  | one =>
    rcases takeBit_cases true s with ⟨hm, h⟩ | ⟨hm, hi, h⟩ | ⟨hm, hi, h⟩
    · exact .inl ⟨.inr hm, h⟩
    · exact .inr (.inr (.inl ⟨true, rfl, hm, hi, h⟩))
    · exact .inr (.inr (.inr ⟨true, rfl, hm, hi, h⟩))
  | zero =>
    rcases takeBit_cases false s with ⟨hm, h⟩ | ⟨hm, hi, h⟩ | ⟨hm, hi, h⟩
    · exact .inl ⟨.inr hm, h⟩
    · exact .inr (.inr (.inl ⟨false, rfl, hm, hi, h⟩))
    · exact .inr (.inr (.inr ⟨false, rfl, hm, hi, h⟩))

/-- What no pulse touches: parameters, inputs, free inputs, `busy` and the symbol shown. -/
theorem onPulse_frame (c : PulseClass) (s : State) :
    (onPulse c s).cfg = s.cfg ∧ (onPulse c s).inputs = s.inputs ∧ (onPulse c s).freeCount = s.freeCount ∧
    (onPulse c s).out.busy = s.out.busy ∧ (onPulse c s).out.sym = s.out.sym := by
  rcases onPulse_cases c s with ⟨_, h⟩ | ⟨_, h⟩ | ⟨_, _, _, _, h⟩ | ⟨v, _, _, _, h⟩ <;> rw [h]
  · exact ⟨rfl, rfl, rfl, rfl, rfl⟩
  · exact ⟨rfl, rfl, rfl, rfl, rfl⟩
  · exact ⟨rfl, rfl, rfl, rfl, rfl⟩
  · generalize (if v then setBit s.bitBuffer s.bitIndex.toNat else s.bitBuffer) = f
    obtain ⟨_, _, _, _, h5, h6, h7, _, h9⟩ := afterFrame_fields f s
    rw [h5, h6, h7, h9]
    split <;> exact ⟨rfl, rfl, rfl, rfl, rfl⟩

@[simp] theorem onPulse_cfg (c : PulseClass) (s : State) : (onPulse c s).cfg = s.cfg := (onPulse_frame c s).1
@[simp] theorem onPulse_inputs (c : PulseClass) (s : State) : (onPulse c s).inputs = s.inputs := (onPulse_frame c s).2.1
@[simp] theorem onPulse_freeCount (c : PulseClass) (s : State) : (onPulse c s).freeCount = s.freeCount :=
  (onPulse_frame c s).2.2.1
@[simp] theorem onPulse_busy (c : PulseClass) (s : State) : (onPulse c s).out.busy = s.out.busy :=
  (onPulse_frame c s).2.2.2.1
@[simp] theorem onPulse_sym (c : PulseClass) (s : State) : (onPulse c s).out.sym = s.out.sym :=
  (onPulse_frame c s).2.2.2.2

/-! ### One step -/

/-- The operation a step runs, by the priority of the control word (30_encoding.md R90). -/
theorem fetch_eq (s : State) : fetch s =
    if (nextInput s).rst then .reset else if isDead s then .deadTick
    else if (nextInput s).pulseValid then .pulse (nextInput s).rawTicks else .idle := by
  unfold fetch
  cases (nextInput s).rst <;> cases isDead s <;> cases (nextInput s).pulseValid <;> rfl

/-- The state after a step, as a function: what a step does, said once. -/
def afterStep (s : State) : State :=
  let s0 := openOutputs (consumeInput s)
  if (nextInput s).rst then setDead 0 (clearMessage false s0)
  else if isDead s then setDead (s.deadCnt - 1) s0
  else if (nextInput s).pulseValid then
    onPulse (classify s.cfg (nextInput s).rawTicks) (showSym (classify s.cfg (nextInput s).rawTicks) s0)
  else s0

/-- A step always goes on, to `afterStep`. -/
theorem step_eq (s : State) : step s = .next (afterStep s) := by
  unfold step afterStep
  rw [fetch_eq]
  split
  · rfl
  · split
    · simp [exec, execDeadTick]
    · split
      · simp [exec, execPulse]
      · rfl

theorem step_next_iff {s t : State} : step s = .next t ↔ t = afterStep s := by
  rw [step_eq]; constructor
  · intro h; injection h with h; exact h.symm
  · rintro rfl; rfl

/-- Everything a step can do: reset, one tick of the dead time, one observed pulse, or nothing. -/
theorem step_cases {s t : State} (h : step s = .next t) :
    ((nextInput s).rst = true ∧ t = setDead 0 (clearMessage false (openOutputs (consumeInput s)))) ∨
    ((nextInput s).rst = false ∧ s.deadCnt ≠ 0 ∧ t = setDead (s.deadCnt - 1) (openOutputs (consumeInput s))) ∨
    (∃ c, s.observes c ∧ t = onPulse c (showSym c (openOutputs (consumeInput s)))) ∨
    ((nextInput s).rst = false ∧ s.deadCnt = 0 ∧ (nextInput s).pulseValid = false ∧
      t = openOutputs (consumeInput s)) := by
  rw [step_next_iff] at h
  subst h
  unfold afterStep
  by_cases hr : (nextInput s).rst = true
  · exact .inl ⟨hr, by simp [hr]⟩
  · rw [Bool.not_eq_true] at hr
    by_cases hd : s.deadCnt = 0
    · by_cases hp : (nextInput s).pulseValid = true
      · exact .inr (.inr (.inl ⟨_, ⟨hr, hd, hp, rfl⟩, by simp [hr, hd, hp, isDead]⟩))
      · rw [Bool.not_eq_true] at hp
        exact .inr (.inr (.inr ⟨hr, hd, hp, by simp [hr, hd, hp, isDead]⟩))
    · exact .inr (.inl ⟨hr, hd, by simp [hr, hd, isDead]⟩)

/-- A run whose first step goes on is the run from the next state, for any machine behind the host's interface. -/
theorem run_of_next {M : Host.Core} {n : Nat} {s s' : M.State} (h : M.step s = .next s') :
    M.run (n + 1) s = M.run n s' := by
  rw [Host.Core.run, h]

/-- A run of one more step is the run from the state after the first. -/
theorem run_succ (n : Nat) (s : State) : Host.Core.run core (n + 1) s = Host.Core.run core n (afterStep s) :=
  run_of_next (M := core) (step_eq s)

/-- A run of no step. -/
theorem run_zero (s : State) : Host.Core.run core 0 s = .next s := rfl

end Sys2Proof.Machine
end

