-- ==== Sys2Proof/Laws/Bits.lean ====
section
/-! SUPPORT. The bits of the buffer: what the one-bit write does to each bit, and the number a list of bits stands for; and
the thresholds as inequalities. -/

namespace Sys2Proof.Machine

/-- The write of bit `n` sets that bit and no other (41_bit_assembly.md R128). -/
theorem getLsbD_setBit {buf : FrameWord} {n : Nat} (hn : n ≤ 11) (i : Nat) :
    (setBit buf n).getLsbD i = (buf.getLsbD i || decide (i = n)) := by
  rw [setBit, BitVec.getLsbD_or, BitVec.getLsbD_shiftLeft, BitVec.getLsbD_one]
  by_cases h : i = n
  · subst h; simp; omega
  · have h' : ¬(i < 12 ∧ ¬i < n ∧ i - n = 0) := by omega
    simp [h]; omega

/-- The write of bit `n` keeps a buffer with nothing from bit `n` on below `2^(n+1)`. -/
theorem setBit_lt {buf : FrameWord} {n : Nat} (h : buf.toNat < 2 ^ n) (hn : n ≤ 11) :
    (setBit buf n).toNat < 2 ^ (n + 1) := by
  have h12 : 2 ^ n < 2 ^ 12 := Nat.pow_lt_pow_right (by omega) (by omega)
  have h1 : (1#12 <<< n).toNat = 2 ^ n := by
    rw [BitVec.toNat_shiftLeft, Nat.shiftLeft_eq]
    simpa using h12
  rw [setBit, BitVec.toNat_or, h1]
  exact Nat.or_lt_two_pow (by rw [Nat.pow_succ]; omega) (Nat.pow_lt_pow_right (by omega) (by omega))

/-- The low `k` bits of a number below `2^k`, listed least significant first, stand for that number. -/
theorem bitsValue_testBits (k f : Nat) (h : f < 2 ^ k) :
    bitsValue ((List.range k).map (fun i => f.testBit i)) = f := by
  induction k generalizing f with
  | zero => simp at h; subst h; rfl
  | succ k ih =>
    rw [List.range_succ_eq_map]
    simp only [List.map_cons, List.map_map, bitsValue]
    have tail : (List.range k).map ((fun i => f.testBit i) ∘ Nat.succ) = (List.range k).map (fun i => (f / 2).testBit i) :=
      List.map_congr_left (fun i _ => by simp [Nat.testBit_succ])
    have head : (f.testBit 0).toNat = f % 2 := by
      rw [Nat.testBit_zero]; rcases Nat.mod_two_eq_zero_or_one f with h | h <;> simp [h]
    rw [tail, ih (f / 2) (by rw [Nat.pow_succ] at h; omega), head]
    omega

/-- A threshold is reached when the product reaches its multiple of `DENOM` (40_classifier.md R117). -/
theorem threshold_le_iff {p : Params} (h : p.Legal) (t n : Nat) : threshold p n ≤ t ↔ n * p.denom ≤ t * p.k := by
  have hk : 0 < p.k := h.2.1
  unfold threshold
  rw [Nat.div_le_iff_le_mul_add_pred hk, Nat.mul_comm p.k t]
  omega

end Sys2Proof.Machine
end

