-- ==== Sys2Proof/Laws/Decode.lean ====
section
/-! SUPPORT. Everything the frame decoder can answer, said once, and what its rows are. -/

namespace Sys2Proof.Machine

/-- Everything the frame decoder can answer: an exact row, KEY_UNMAPPED, or MSG_WRONG_MODE. -/
theorem decodeFrame_cases (f : FrameWord) :
    (∃ r ∈ keyRows, r.1 = f ∧ decodeFrame f = r.2) ∨
    ((∀ r ∈ keyRows, r.1 ≠ f) ∧ frameMode f = Config.acceptMode ∧ decodeFrame f = .keyUnmapped (frameButton f)) ∨
    ((∀ r ∈ keyRows, r.1 ≠ f) ∧ frameMode f ≠ Config.acceptMode ∧
      decodeFrame f = .msgWrongMode (frameMode f) (frameButton f)) := by
  unfold decodeFrame
  cases h : keyRows.find? (fun r => r.1 == f) with
  | some r =>
    exact .inl ⟨r, List.mem_of_find?_eq_some h, by simpa using List.find?_some h, rfl⟩
  | none =>
    have hn : ∀ r ∈ keyRows, r.1 ≠ f := by simpa [List.find?_eq_none] using h
    by_cases hm : frameMode f = Config.acceptMode
    · exact .inr (.inl ⟨hn, hm, by simp [hm]⟩)
    · exact .inr (.inr ⟨hn, hm, by simp [hm]⟩)

/-- The exact rows are encoded as themselves. -/
theorem encode_keyRow : ∀ r ∈ keyRows, encode r.2 = .frame r.1 := by decide

/-- Composition is undone by the split (30_encoding.md R88). -/
@[simp] theorem frameMode_composeFrame (m : ModeCode) (b : Button) : frameMode (composeFrame m b) = m := by
  ext i hi; simp only [frameMode, composeFrame]; interval_cases i <;> simp

@[simp] theorem frameButton_composeFrame (m : ModeCode) (b : Button) : frameButton (composeFrame m b) = b := by
  ext i hi; simp only [frameButton, composeFrame]; interval_cases i <;> simp

/-- A listed button with the accepted mode has an exact row. -/
theorem keyRow_of_isListed : ∀ b : Button, isListed b = true →
    (keyRows.find? (fun r => r.1 == composeFrame Config.acceptMode b)).isSome = true := by decide

/-- The exact row of a frame, run on a state, delivers the frame's button (30_encoding.md R89). -/
theorem exec_keyRow (s : State) : ∀ r ∈ keyRows, exec r.2 s = .next (deliver (frameButton r.1) s) := by
  intro r hr
  simp only [keyRows, List.cons_append, List.nil_append, List.mem_cons, List.not_mem_nil, or_false] at hr
  rcases hr with rfl | rfl | rfl | rfl | rfl | rfl | rfl | rfl | rfl | rfl | rfl | rfl | rfl | rfl | rfl | rfl | rfl | rfl <;> rfl

end Sys2Proof.Machine
end

