-- ==== Sys2Proof/Laws/PerInstr.lean ====
section
/-! SUPPORT. The per-instruction family EncodesItsRow: the encoding of each instruction is a word of its own row of the opcode
table (30_encoding.md R96). -/

namespace Sys2Proof.Laws.EncodesItsRow

/-- The word `encode i` has the format of a row with `i`'s mnemonic, and matches it. -/
def Statement (i : Instr) : Prop :=
  ∃ r ∈ opcodeRows (encode i).format,
    r.mnemonic = i.mnemonic ∧ r.format = (encode i).format ∧ (encode i).bits &&& r.mask = r.matchBits

theorem reset : Statement Instr.reset :=
  ⟨⟨"RESET", .ctl, 0x4, 0x4⟩, by simp [opcodeRows, encode, Code.format, ctlRows], rfl, rfl, by decide⟩
theorem deadTick : Statement Instr.deadTick :=
  ⟨⟨"DEAD_TICK", .ctl, 0x2, 0x6⟩, by simp [opcodeRows, encode, Code.format, ctlRows], rfl, rfl, by decide⟩
theorem pulse (rawTicks : Nat) : Statement (Instr.pulse rawTicks) :=
  ⟨⟨"PULSE", .ctl, 0x1, 0x7⟩, by simp [opcodeRows, encode, Code.format, ctlRows], rfl, rfl, by simp [encode, Code.bits]⟩
theorem idle : Statement Instr.idle :=
  ⟨⟨"IDLE", .ctl, 0x0, 0x7⟩, by simp [opcodeRows, encode, Code.format, ctlRows], rfl, rfl, by decide⟩
theorem zero : Statement Instr.zero :=
  ⟨⟨"ZERO", .sym, 0x0, 0x3⟩, by simp [opcodeRows, encode, Code.format, symRows], rfl, rfl, by decide⟩
theorem one : Statement Instr.one :=
  ⟨⟨"ONE", .sym, 0x1, 0x3⟩, by simp [opcodeRows, encode, Code.format, symRows], rfl, rfl, by decide⟩
theorem start : Statement Instr.start :=
  ⟨⟨"START", .sym, 0x2, 0x3⟩, by simp [opcodeRows, encode, Code.format, symRows], rfl, rfl, by decide⟩
theorem ignore : Statement Instr.ignore :=
  ⟨⟨"IGNORE", .sym, 0x3, 0x3⟩, by simp [opcodeRows, encode, Code.format, symRows], rfl, rfl, by decide⟩
theorem key1 : Statement Instr.key1 :=
  ⟨⟨"KEY_1", .frame, 0x080, 0xFFF⟩, by simp [opcodeRows, encode, Code.format, frameRows], rfl, rfl, by decide⟩
theorem key2 : Statement Instr.key2 :=
  ⟨⟨"KEY_2", .frame, 0x081, 0xFFF⟩, by simp [opcodeRows, encode, Code.format, frameRows], rfl, rfl, by decide⟩
theorem key3 : Statement Instr.key3 :=
  ⟨⟨"KEY_3", .frame, 0x082, 0xFFF⟩, by simp [opcodeRows, encode, Code.format, frameRows], rfl, rfl, by decide⟩
theorem key4 : Statement Instr.key4 :=
  ⟨⟨"KEY_4", .frame, 0x083, 0xFFF⟩, by simp [opcodeRows, encode, Code.format, frameRows], rfl, rfl, by decide⟩
theorem key5 : Statement Instr.key5 :=
  ⟨⟨"KEY_5", .frame, 0x084, 0xFFF⟩, by simp [opcodeRows, encode, Code.format, frameRows], rfl, rfl, by decide⟩
theorem key6 : Statement Instr.key6 :=
  ⟨⟨"KEY_6", .frame, 0x085, 0xFFF⟩, by simp [opcodeRows, encode, Code.format, frameRows], rfl, rfl, by decide⟩
theorem key7 : Statement Instr.key7 :=
  ⟨⟨"KEY_7", .frame, 0x086, 0xFFF⟩, by simp [opcodeRows, encode, Code.format, frameRows], rfl, rfl, by decide⟩
theorem key8 : Statement Instr.key8 :=
  ⟨⟨"KEY_8", .frame, 0x087, 0xFFF⟩, by simp [opcodeRows, encode, Code.format, frameRows], rfl, rfl, by decide⟩
theorem key9 : Statement Instr.key9 :=
  ⟨⟨"KEY_9", .frame, 0x088, 0xFFF⟩, by simp [opcodeRows, encode, Code.format, frameRows], rfl, rfl, by decide⟩
theorem key0 : Statement Instr.key0 :=
  ⟨⟨"KEY_0", .frame, 0x089, 0xFFF⟩, by simp [opcodeRows, encode, Code.format, frameRows], rfl, rfl, by decide⟩
theorem keyChUp : Statement Instr.keyChUp :=
  ⟨⟨"KEY_CH_UP", .frame, 0x090, 0xFFF⟩, by simp [opcodeRows, encode, Code.format, frameRows], rfl, rfl, by decide⟩
theorem keyChDown : Statement Instr.keyChDown :=
  ⟨⟨"KEY_CH_DOWN", .frame, 0x091, 0xFFF⟩, by simp [opcodeRows, encode, Code.format, frameRows], rfl, rfl, by decide⟩
theorem keyVolUp : Statement Instr.keyVolUp :=
  ⟨⟨"KEY_VOL_UP", .frame, 0x092, 0xFFF⟩, by simp [opcodeRows, encode, Code.format, frameRows], rfl, rfl, by decide⟩
theorem keyVolDown : Statement Instr.keyVolDown :=
  ⟨⟨"KEY_VOL_DOWN", .frame, 0x093, 0xFFF⟩, by simp [opcodeRows, encode, Code.format, frameRows], rfl, rfl, by decide⟩
theorem keyMute : Statement Instr.keyMute :=
  ⟨⟨"KEY_MUTE", .frame, 0x094, 0xFFF⟩, by simp [opcodeRows, encode, Code.format, frameRows], rfl, rfl, by decide⟩
theorem keyPower : Statement Instr.keyPower :=
  ⟨⟨"KEY_POWER", .frame, 0x095, 0xFFF⟩, by simp [opcodeRows, encode, Code.format, frameRows], rfl, rfl, by decide⟩
theorem keyEnter : Statement Instr.keyEnter :=
  ⟨⟨"KEY_ENTER", .frame, 0x08B, 0xFFF⟩, by simp [opcodeRows, encode, Code.format, frameRows], rfl, rfl, by decide⟩
theorem keyClear : Statement Instr.keyClear :=
  ⟨⟨"KEY_CLEAR", .frame, 0x0BB, 0xFFF⟩, by simp [opcodeRows, encode, Code.format, frameRows], rfl, rfl, by decide⟩
theorem keyUnmapped (button : Button) : Statement (Instr.keyUnmapped button) :=
  ⟨⟨"KEY_UNMAPPED", .frame, 0x080, 0xF80⟩, by simp [opcodeRows, encode, Code.format, frameRows], rfl, rfl, by revert button; decide⟩
theorem msgWrongMode (mode : ModeCode) (button : Button) : Statement (Instr.msgWrongMode mode button) :=
  ⟨⟨"MSG_WRONG_MODE", .frame, 0x000, 0x000⟩, by simp [opcodeRows, encode, Code.format, frameRows], rfl, rfl, Nat.and_zero _⟩

end Sys2Proof.Laws.EncodesItsRow
end

