-- ==== Sys2Proof/Tests/Slice0.lean ====
section
/-! SUPPORT. Tests: ill-formed terms the check refuses; words written out from the spec's encodings; single steps from the
spec's test vectors (95_test_vectors.md, named in each comment); and, for every statement with hypotheses, a concrete input
that meets them. -/

namespace Sys2Proof.Tests

open Sys2Proof.Machine

/-- CFG-A of 95_test_vectors.md with `DEAD_CYCLES = 3`. -/
def cfgA : Params := { tickW := 16, k := 1, denom := 1000, deadCycles := 3 }

/-- CFG-B of 95_test_vectors.md with `DEAD_CYCLES = 3`. -/
def cfgB : Params := { tickW := 16, k := 1000, denom := 32768, deadCycles := 3 }

/-- A state `{buf, idx, valid, dead}` under CFG-A with the given inputs to come. -/
def st (buf : FrameWord) (idx : BitVec 4) (valid : Bool) (dead : Nat) (ins : List Input) : State :=
  { bitBuffer := buf, bitIndex := idx, messageValid := valid, deadCnt := dead, cfg := cfgA, inputs := ins, freeCount := 0,
    out := { tx := none, busy := false, sym := none }, txTrace := [] }

/-- The state an outcome goes on to, if it does. -/
def goesOn : Host.Outcome State Fault Refusal → Option State
  | .next s => some s
  | .fault _ => none
  | .refused _ => none

/-- The four registers, as `{buf, idx, valid, dead}`, and the outputs. -/
def seen (o : Host.Outcome State Fault Refusal) : Option (FrameWord × BitVec 4 × Bool × Nat × Output) :=
  (goesOn o).map (fun s => (s.bitBuffer, s.bitIndex, s.messageValid, s.deadCnt, s.out))

/-- A pulse of `n` ticks. -/
def pulseOf (n : Nat) : Input := { rst := false, pulseValid := true, rawTicks := n }

/-- A step without a pulse. -/
def noPulse : Input := { rst := false, pulseValid := false, rawTicks := 0 }

/-! ### Ill-formed terms are refused -/

theorem test_wf_refuses_wide_ticks : (Instr.pulse 65536).wf cfgA = false := by decide
theorem test_wf_refuses_listed_unmapped : (Instr.keyUnmapped 0x3B#7).wf cfgA = false := by decide
theorem test_wf_refuses_accepted_wrong_mode : (Instr.msgWrongMode 0x01#5 0x15#7).wf cfgA = false := by decide
theorem test_wf_accepts : (Instr.pulse 65535).wf cfgA = true ∧ (Instr.keyUnmapped 0x0A#7).wf cfgA = true ∧
    (Instr.msgWrongMode 0x1F#5 0x7F#7).wf cfgA = true ∧ Instr.keyPower.wf cfgA = true := by decide
theorem test_params_refused : ¬(Params.Legal { tickW := 1, k := 1, denom := 1, deadCycles := 0 }) ∧
    ¬(Params.Legal { tickW := 2, k := 0, denom := 1, deadCycles := 0 }) ∧
    ¬(Params.Legal { tickW := 2, k := 1, denom := 0, deadCycles := 0 }) := by decide
theorem test_memory_refused : Memory.wf [(1, 0x31#8), (1, 0x32#8)] = false ∧ Memory.wf [(2, 0x31#8), (1, 0x32#8)] = false ∧
    Memory.wf [(1, 0x00#8)] = false := by decide

/-! ### Words written out from 30_encoding.md R90, R83, R85 -/

theorem test_decode_ctl : decode (.ctl 0b100#3 0) = .reset ∧ decode (.ctl 0b111#3 7) = .reset ∧
    decode (.ctl 0b010#3 0) = .deadTick ∧ decode (.ctl 0b011#3 9) = .deadTick ∧ decode (.ctl 0b001#3 2400) = .pulse 2400 ∧
    decode (.ctl 0b000#3 5) = .idle := by decide
theorem test_decode_sym : decode (.sym 0b00#2) = .zero ∧ decode (.sym 0b01#2) = .one ∧ decode (.sym 0b10#2) = .start ∧
    decode (.sym 0b11#2) = .ignore := by decide
theorem test_decode_digits : decode (.frame 0b000010000000#12) = .key1 ∧ decode (.frame 0b000010000001#12) = .key2 ∧
    decode (.frame 0b000010000010#12) = .key3 ∧ decode (.frame 0b000010000011#12) = .key4 ∧
    decode (.frame 0b000010000100#12) = .key5 ∧ decode (.frame 0b000010000101#12) = .key6 ∧
    decode (.frame 0b000010000110#12) = .key7 ∧ decode (.frame 0b000010000111#12) = .key8 ∧
    decode (.frame 0b000010001000#12) = .key9 ∧ decode (.frame 0b000010001001#12) = .key0 := by decide
theorem test_decode_functions : decode (.frame 0b000010010000#12) = .keyChUp ∧ decode (.frame 0b000010010001#12) = .keyChDown ∧
    decode (.frame 0b000010010010#12) = .keyVolUp ∧ decode (.frame 0b000010010011#12) = .keyVolDown ∧
    decode (.frame 0b000010010100#12) = .keyMute ∧ decode (.frame 0b000010010101#12) = .keyPower ∧
    decode (.frame 0b000010001011#12) = .keyEnter ∧ decode (.frame 0b000010111011#12) = .keyClear := by decide
theorem test_decode_defaults : decode (.frame 0b000011111111#12) = .keyUnmapped 0b1111111#7 ∧
    decode (.frame 0b100010010101#12) = .msgWrongMode 0b10001#5 0b0010101#7 ∧
    decode (.frame 0b000000010101#12) = .msgWrongMode 0b00000#5 0b0010101#7 := by decide
theorem test_table_words : decodeTableWord 8 4 = some .reset ∧ decodeTableWord 2 2 = some .start ∧
    decodeTableWord 3 1 = some (.pulse 0) ∧ decodeTableWord 16 0x0BB = some .keyClear ∧
    decodeTableWord 12 0x08A = some (.keyUnmapped 0x0A#7) := by decide
theorem test_table_words_refused : decodeTableWord 8 8 = none ∧ decodeTableWord 2 4 = none ∧ decodeTableWord 16 4096 = none ∧
    decodeTableWord 24 0 = none ∧ tableCode 24 0 = .error (.noSuchFormat 24) ∧
    tableCode 16 4096 = .error (.wordTooWide .frame 4096) := by
  refine ⟨by decide, by decide, by decide, by decide, rfl, rfl⟩

/-! ### The classifier: 95_test_vectors.md 2.1 -/

theorem test_classify_cfgA : classify cfgA 999 = .zero ∧ classify cfgA 1000 = .one ∧ classify cfgA 1999 = .one ∧
    classify cfgA 2000 = .start ∧ classify cfgA 2999 = .start ∧ classify cfgA 3000 = .ignore := by decide
theorem test_classify_cfgB : classify cfgB 32 = .zero ∧ classify cfgB 33 = .one ∧ classify cfgB 65 = .one ∧
    classify cfgB 66 = .start ∧ classify cfgB 98 = .start ∧ classify cfgB 99 = .ignore ∧ threshold cfgB 3 = 99 := by decide
/-- 95_test_vectors.md 2.1, degenerate parameters: `K = 10, DENOM = 3`. -/
theorem test_classify_degenerate : classify { cfgA with k := 10, denom := 3 } 0 = .zero ∧
    classify { cfgA with k := 10, denom := 3 } 1 = .ignore := by decide

/-! ### Single steps: 95_test_vectors.md 2.2, 2.3.2, 2.4 -/

theorem test_start_restarts : seen (exec .start (st 0x015#12 5#4 true 0 [])) =
    some (0x000#12, 0#4, true, 0, { tx := none, busy := false, sym := none }) := by decide
theorem test_one_sets_its_bit : seen (exec .one (st 0x005#12 3#4 true 0 [])) =
    some (0x00D#12, 4#4, true, 0, { tx := none, busy := false, sym := none }) := by decide
theorem test_one_eleventh_does_not_finalize : seen (exec .one (st 0x3FF#12 10#4 true 0 [])) =
    some (0x7FF#12, 11#4, true, 0, { tx := none, busy := false, sym := none }) := by decide
theorem test_one_twelfth_wrong_mode : seen (exec .one (st 0x095#12 11#4 true 0 [])) =
    some (0x000#12, 0#4, false, 3, { tx := none, busy := false, sym := none }) := by decide
theorem test_zero_leaves_its_bit : seen (exec .zero (st 0x005#12 3#4 true 0 [])) =
    some (0x005#12, 4#4, true, 0, { tx := none, busy := false, sym := none }) := by decide
theorem test_zero_twelfth_emits : seen (exec .zero (st 0x095#12 11#4 true 0 [])) =
    some (0x000#12, 0#4, false, 3, { tx := some 0x70#8, busy := false, sym := none }) := by decide
theorem test_zero_twelfth_unlisted_emits_nul : seen (exec .zero (st 0x08A#12 11#4 true 0 [])) =
    some (0x000#12, 0#4, false, 3, { tx := some 0x00#8, busy := false, sym := none }) := by decide
theorem test_ignore_at_eleven : seen (exec .ignore (st 0x7FF#12 11#4 true 0 [])) =
    some (0x7FF#12, 11#4, true, 0, { tx := none, busy := false, sym := none }) := by decide
theorem test_step_reset_wins : seen (step (st 0x0D5#12 9#4 true 0 [{ rst := true, pulseValid := true, rawTicks := 2400 }])) =
    some (0x000#12, 0#4, false, 0, { tx := none, busy := false, sym := none }) := by decide
theorem test_step_reset_ends_dead_time : seen (step (st 0x000#12 0#4 false 3 [{ noPulse with rst := true }])) =
    some (0x000#12, 0#4, false, 0, { tx := none, busy := true, sym := none }) := by decide
theorem test_step_dead_tick_drops_start : seen (step (st 0x000#12 0#4 false 3 [pulseOf 2400])) =
    some (0x000#12, 0#4, false, 2, { tx := none, busy := true, sym := none }) := by decide
theorem test_step_idle : seen (step (st 0x005#12 3#4 true 0 [noPulse])) =
    some (0x005#12, 3#4, true, 0, { tx := none, busy := false, sym := none }) := by decide
theorem test_step_pulse_start : seen (step (st 0x000#12 0#4 false 0 [pulseOf 2400])) =
    some (0x000#12, 0#4, true, 0, { tx := none, busy := false, sym := some 0b10#2 }) := by decide
theorem test_step_pulse_finalizes : seen (step (st 0x095#12 11#4 true 0 [pulseOf 600])) =
    some (0x000#12, 0#4, false, 3, { tx := some 0x70#8, busy := false, sym := some 0b00#2 }) := by decide

/-- 95_test_vectors.md 2.3.1, the `tx_data` column. -/
theorem test_keys_emit : [Instr.key1, .key2, .key3, .key4, .key5, .key6, .key7, .key8, .key9, .key0, .keyChUp, .keyChDown,
      .keyVolUp, .keyVolDown, .keyMute, .keyPower, .keyEnter, .keyClear, .keyUnmapped 0x0A#7, .msgWrongMode 0x02#5 0x15#7].map
        (fun i => (goesOn (exec i (st 0x000#12 0#4 false 0 []))).map (fun s => s.txTrace)) =
    [[0x31#8], [0x32#8], [0x33#8], [0x34#8], [0x35#8], [0x36#8], [0x37#8], [0x38#8], [0x39#8], [0x30#8], [0x5E#8], [0x76#8],
      [0x2B#8], [0x2D#8], [0x6D#8], [0x70#8], [0x0A#8], [0x63#8], [0x00#8], []].map some := by decide

/-- 30_encoding.md R95: `MSG(0x15, 0x01)` is `S 1 0 1 0 1 0 0 1 0 0 0 0`. -/
theorem test_key_tokens : keyTokens 0x15#7 = [.pulseStart, .pulseOne, .pulseZero, .pulseOne, .pulseZero, .pulseOne, .pulseZero,
    .pulseZero, .pulseOne, .pulseZero, .pulseZero, .pulseZero, .pulseZero] := by decide
/-- 95_test_vectors.md P2: `BITS(0x115, 12)`. -/
theorem test_bits_tokens : bitsTokens 0x115 12 = [.pulseOne, .pulseZero, .pulseOne, .pulseZero, .pulseOne, .pulseZero, .pulseZero,
    .pulseZero, .pulseOne, .pulseZero, .pulseZero, .pulseZero] := by decide
theorem test_token_inputs : [Token.pulseStart, .ticks 7, .dot, .resetStep].map (tokenInput cfgA) =
    [pulseOf 2000, pulseOf 7, noPulse, { noPulse with rst := true }] ∧ (deadWaitTokens cfgA).length = 3 := by decide
theorem test_deadW : Params.deadW { cfgA with deadCycles := 0 } = 1 ∧ Params.deadW { cfgA with deadCycles := 1 } = 1 ∧
    Params.deadW { cfgA with deadCycles := 3 } = 2 ∧ Params.deadW { cfgA with deadCycles := 4 } = 3 := by decide
theorem test_control_states : controlState (st 0 0 false 0 []) = .waiting ∧ controlState (st 1 1 true 0 []) = .accumulating ∧
    controlState (st 0 0 false 1 []) = .dead := by decide
theorem test_visible : visible [0x00#8, 0x2B#8] = [0x2B#8] := by decide

/-! ### A word placed for the next step is the one it runs -/

theorem test_fetch_word_ctl : fetch ((st 0 0 false 0 []).withFetchWord 8 2) = .deadTick ∧
    fetch ((st 0 0 false 2 []).withFetchWord 8 1) = .pulse 0 ∧ fetch ((st 0 0 false 2 []).withFetchWord 8 0) = .idle ∧
    fetch ((st 0 0 false 2 []).withFetchWord 8 4) = .reset := by decide
theorem test_fetch_word_sym : seen (step ((st 0x005#12 3#4 true 0 []).withFetchWord 2 1)) =
    some (0x00D#12, 4#4, true, 0, { tx := none, busy := false, sym := some 0b01#2 }) := by decide
theorem test_fetch_word_frame : (goesOn (step ((st 0 0 false 0 []).withFetchWord 16 0x0BB))).map (fun s => s.txTrace) =
    some [0x63#8] := by decide
/-- From reset, whatever the parameters are, every table word's step goes on. -/
theorem test_fetch_word_from_reset :
    ([(8, 4), (8, 2), (8, 1), (8, 0), (2, 0), (2, 1), (2, 2), (2, 3), (16, 0x080), (16, 0x0BB), (16, 0x08A), (16, 0xFFF)].all
      (fun w => (goesOn (step (State.reset.withFetchWord w.1 w.2))).isSome)) = true := by
  simp [step_eq, goesOn]

/-! ### Inputs that meet the hypotheses of the statements -/

/-- A message in progress, a pulse to come. -/
def midMessage : State := st 0x005#12 3#4 true 0 [pulseOf 1200]
/-- Eleven bits of the frame 0x095 taken, the 12th pulse to come: an emission. -/
def lastBit : State := st 0x095#12 11#4 true 0 [pulseOf 600]
/-- Eleven bits taken, a ONE to come: the mode is wrong. -/
def lastBitOne : State := st 0x095#12 11#4 true 0 [pulseOf 1200]
/-- The dead time runs, a START to come. -/
def deadState : State := st 0x000#12 0#4 false 3 [pulseOf 2400]
/-- WAITING, a START to come. -/
def waitingState : State := st 0x000#12 0#4 false 0 [pulseOf 2400]

theorem midMessage_inv : midMessage.Inv := ⟨by decide, by decide, by decide, by decide, by decide⟩
theorem lastBit_inv : lastBit.Inv := ⟨by decide, by decide, by decide, by decide, by decide⟩
theorem lastBitOne_inv : lastBitOne.Inv := ⟨by decide, by decide, by decide, by decide, by decide⟩
theorem deadState_inv : deadState.Inv := ⟨by decide, by decide, by decide, by decide, by decide⟩
theorem waitingState_inv : waitingState.Inv := ⟨by decide, by decide, by decide, by decide, by decide⟩

theorem witness_StepKeepsInvariant : lastBit.Inv ∧ ∃ t, step lastBit = .next t := ⟨lastBit_inv, _, step_eq _⟩
theorem witness_StepRunsDecodedInput :
    (∃ (s : State) (i : Input) (rest : List Input), s.inputs = i :: rest ∧ i.rst = true) ∧
    (∃ (s : State) (i : Input) (rest : List Input), s.inputs = i :: rest ∧ i.rst = false ∧ s.deadCnt ≠ 0) ∧
    (∃ (s : State) (i : Input) (rest : List Input), s.inputs = i :: rest ∧ i.rst = false ∧ s.deadCnt = 0 ∧ i.pulseValid = true) ∧
    (∃ (s : State) (i : Input) (rest : List Input), s.inputs = i :: rest ∧ i.rst = false ∧ s.deadCnt = 0 ∧ i.pulseValid = false) ∧
    (∃ s : State, s.inputs = []) :=
  ⟨⟨st 0 0 false 1 [{ noPulse with rst := true }], _, _, rfl, rfl⟩, ⟨deadState, _, _, rfl, rfl, by decide⟩,
    ⟨lastBit, _, _, rfl, rfl, rfl, rfl⟩, ⟨st 0 0 false 0 [noPulse], _, _, rfl, rfl, rfl, rfl⟩, ⟨State.reset, rfl⟩⟩
theorem witness_StepNeverChangesParameters : ∃ t, step midMessage = .next t := ⟨_, step_eq _⟩
/-- For ClassifyByQuantizedDuration, ClassesAreContiguousTickRanges, ClassifyByThresholds and LowestTickHasItsClass: legal
parameters, the least of them too, and a measurement in each class at its boundary. -/
theorem witness_Classify : cfgA.Legal ∧ cfgB.Legal ∧ Params.Legal { tickW := 2, k := 1, denom := 1, deadCycles := 0 } ∧
    classify cfgA 999 = .zero ∧ classify cfgA 1000 = .one ∧ classify cfgA 2999 = .start ∧ classify cfgA 3000 = .ignore := by decide
theorem witness_StartRestartsMessage : (∃ t, exec .start midMessage = .next t) ∧ deadState.deadCnt ≠ 0 := ⟨⟨_, rfl⟩, by decide⟩
theorem witness_DataBits : (st 0x3FF#12 10#4 true 0 []).messageValid = true ∧ (st 0x3FF#12 10#4 true 0 []).bitIndex.toNat ≤ 10 ∧
    lastBit.messageValid = true ∧ lastBit.bitIndex.toNat = 11 := by decide
/-- The invariant's clause in OneTakesDataBit and ZeroTakesDataBit. -/
theorem witness_DataBitsInv : lastBit.messageValid = true ∧ lastBit.Inv := ⟨rfl, lastBit_inv⟩
theorem witness_BitBeforeStartIgnored : waitingState.messageValid = false := rfl
theorem witness_IndexAboveElevenFinalizes : (st 0 12#4 true 0 []).messageValid = true ∧ 12 ≤ (st 0 12#4 true 0 []).bitIndex.toNat ∧
    12 ≤ (st 0 15#4 true 0 []).bitIndex.toNat := by decide
theorem witness_UnmappedKeyTransmitsNul : isListed 0x0A#7 = false ∧ isListed 0x7F#7 = false := by decide
theorem witness_WrongModeDiscards : (0x00#5 : ModeCode) ≠ 0x01#5 ∧ (0x1F#5 : ModeCode) ≠ 0x01#5 := by decide
theorem witness_CtlOperations : (st 0 0 false 1 []).deadCnt ≠ 0 ∧ midMessage.deadCnt = 0 := by decide
theorem witness_MaskedPulseIsLost : (true = true ∨ midMessage.deadCnt ≠ 0) ∧ (false = true ∨ deadState.deadCnt ≠ 0) := by decide
theorem witness_DeadTimeDropsEveryPulse :
    (st 0 0 false 2 [pulseOf 2400, noPulse]).inputs = [pulseOf 2400, noPulse] ++ [] ∧
    [pulseOf 2400, noPulse].length ≤ (st 0 0 false 2 [pulseOf 2400, noPulse]).deadCnt ∧
    ∀ i ∈ [pulseOf 2400, noPulse], i.rst = false := by decide
theorem witness_QuietInputsChangeNothing :
    (st 5 3 true 0 [pulseOf 3000, noPulse]).inputs = [pulseOf 3000, noPulse] ++ [] ∧
    (st 5 3 true 0 [pulseOf 3000, noPulse]).deadCnt = 0 ∧ ∀ i ∈ [pulseOf 3000, noPulse], i.quiet cfgA = true := by decide
/-- Both sides: a step that emits and one that does not. -/
theorem witness_EmissionOnlyByTwelfthDataPulse :
    (lastBit.Inv ∧ ∃ t, step lastBit = .next t ∧ t.out.tx = some 0x70#8) ∧
    (midMessage.Inv ∧ ∃ t, step midMessage = .next t ∧ t.out.tx = none) :=
  ⟨⟨lastBit_inv, _, step_eq _, by decide⟩, ⟨midMessage_inv, _, step_eq _, by decide⟩⟩
theorem witness_DeadTimeOnlyFromFinalization :
    (lastBitOne.Inv ∧ ∃ t, step lastBitOne = .next t ∧ lastBitOne.deadCnt = 0 ∧ t.deadCnt ≠ 0) ∧
    (deadState.Inv ∧ (∃ t, step deadState = .next t) ∧ deadState.deadCnt ≠ 0) :=
  ⟨⟨lastBitOne_inv, _, step_eq _, rfl, by decide⟩, ⟨deadState_inv, ⟨_, step_eq _⟩, by decide⟩⟩
theorem witness_OnlyStartOpensMessage :
    ∃ t, step waitingState = .next t ∧ waitingState.messageValid = false ∧ t.messageValid = true := ⟨_, step_eq _, rfl, by decide⟩
theorem witness_MessageEnds : ∃ t, lastBitOne.Inv ∧ step lastBitOne = .next t ∧ lastBitOne.messageValid = true ∧
    t.messageValid = false := ⟨_, lastBitOne_inv, step_eq _, rfl, by decide⟩
/-- For BusyAndSymbolOutputs and VisibleOnlyListedCharacters. -/
theorem witness_Outputs : ∃ t, step lastBit = .next t ∧ t.out.sym = some 0b00#2 ∧ visible t.txTrace = [0x70#8] :=
  ⟨_, step_eq _, by decide, by decide⟩
/-- For StepRefinesEventDecoder and RunRefinesEventDecoder. -/
theorem witness_Refinement : waitingState.Inv ∧ (∃ t, step waitingState = .next t) ∧ waitingState.inputs = [pulseOf 2400] ++ [] :=
  ⟨waitingState_inv, ⟨_, step_eq _⟩, rfl⟩
theorem witness_WithoutDeadTime : ∃ s : State, s.cfg.deadCycles = 0 ∧ s.deadCnt = 0 ∧ s.inputs = [pulseOf 2400, noPulse] ++ [] ∧
    ∀ i ∈ [pulseOf 2400, noPulse], i.rst = false :=
  ⟨{ st 0 0 false 0 [pulseOf 2400, noPulse] with cfg := { cfgA with deadCycles := 0 } }, rfl, rfl, rfl, by decide⟩

/-- The pulses of `KEY(0x00)` before its last, with an IDLE step and an IGNORE among them. -/
def keyPulses : List Input :=
  [pulseOf 2400, noPulse] ++ List.replicate 7 (pulseOf 600) ++ [pulseOf 45000, pulseOf 1200] ++ List.replicate 3 (pulseOf 600)

theorem witness_MessageRoundTrip :
    (st 0x015#12 5#4 true 0 (keyPulses ++ pulseOf 600 :: [])).deadCnt = 0 ∧ (∀ i ∈ keyPulses, i.rst = false) ∧
    (pulseOf 600).rst = false ∧ (pulseOf 600).pulseValid = true ∧ (pulseOf 600).pulseClass cfgA ≠ .ignore ∧
    countedClasses cfgA (keyPulses ++ [pulseOf 600]) = messageClasses 0x080#12 := by decide
theorem witness_Encoding : (Instr.pulse 65535).wf cfgA = true ∧ (Instr.keyUnmapped 0x7F#7).wf cfgA = true ∧
    (Instr.msgWrongMode 0x00#5 0x7F#7).wf cfgA = true ∧ (65535 < 2 ^ cfgA.tickW) := by decide
theorem witness_MessageTokensCarryFrame : cfgA.Legal ∧ (∃ n, n < 2 ^ cfgA.tickW ∧ classify cfgA n = .start) ∧
    (∃ n, n < 2 ^ cfgA.tickW ∧ classify cfgA n = .one) := ⟨by decide, ⟨2400, by decide⟩, ⟨1200, by decide⟩⟩
theorem witness_DeadWidthIsLeast : 1 ≤ 2 ∧ cfgA.deadCycles < 2 ^ 2 ∧ deadState.Inv ∧ deadState.cfg = cfgA :=
  ⟨by decide, by decide, deadState_inv, rfl⟩

end Sys2Proof.Tests
end

section
/-! The dead-time counter's width (00_scope.md R11): `deadW` is the lower adjoint of `w ↦ 2 ^ w` on widths that are at least 1. -/

namespace Sys2Proof

theorem Params.one_le_deadW (p : Params) : 1 ≤ p.deadW := Nat.le_add_left 1 _

/-- The widths that hold `DEAD_CYCLES` are exactly those from `DEAD_W` on. Only `DEAD_CYCLES = 0` needs `1 ≤ w`: there width 0
would do, and R11 asks for at least 1. -/
theorem Params.deadW_le_iff (p : Params) {w : Nat} (hw : 1 ≤ w) : p.deadW ≤ w ↔ p.deadCycles < 2 ^ w := by
  rw [deadW, Nat.add_one_le_iff, Nat.log2_eq_log_two]
  exact ⟨Nat.lt_pow_of_log_lt Nat.one_lt_two, Nat.log_lt_of_lt_pow' (Nat.one_le_iff_ne_zero.mp hw)⟩

theorem Params.deadCycles_lt_two_pow_deadW (p : Params) : p.deadCycles < 2 ^ p.deadW :=
  (p.deadW_le_iff p.one_le_deadW).mp le_rfl

theorem Machine.State.Inv.deadCnt_lt_two_pow_deadW {s : State} (h : s.Inv) : s.deadCnt < 2 ^ s.cfg.deadW :=
  h.dead_le.trans_lt s.cfg.deadCycles_lt_two_pow_deadW

/-- Settles O54: `Params.deadW_le_iff` gives the width's two sides, and the invariant bounds the counter by `DEAD_CYCLES`. -/
theorem deadWidthIsLeast : Obligations.DeadWidthIsLeast := by
  intro p
  refine ⟨p.one_le_deadW, p.deadCycles_lt_two_pow_deadW, fun _ hw => (p.deadW_le_iff hw).mpr, ?_⟩
  rintro s hInv rfl
  exact hInv.deadCnt_lt_two_pow_deadW

end Sys2Proof
end

section
/-! The state's registers: each operation keeps the invariant of 10_state.md R29, and what a pulse can do to `dead_cnt`,
`message_valid` and, out of range, to a bit of the buffer. Every statement about a step is then read off `step_cases`. -/

namespace Sys2Proof.Machine

/-! ### The invariant -/

/-- With nothing of a message kept, only the two items about the dead time are left to check. -/
theorem inv_of_cleared {s : State} (hbuf : s.bitBuffer = 0x000#12) (hidx : s.bitIndex = 0#4)
    (hwait : s.deadCnt ≠ 0 → s.messageValid = false) (hle : s.deadCnt ≤ s.cfg.deadCycles) : s.Inv where
  index_le := by simp [hidx]
  waiting_clear _ := ⟨hidx, hbuf⟩
  bits_below := by simp [hbuf, hidx]
  dead_waiting := hwait
  dead_le := hle

/-- The invariant speaks of the registers and the parameters alone, so taking the input and opening the outputs keep it. -/
theorem inv_openOutputs_consumeInput {s : State} (h : s.Inv) : (openOutputs (consumeInput s)).Inv := by
  obtain ⟨hidx, hclear, hbits, hwait, hle⟩ := h
  constructor <;> simpa

theorem inv_showSym (c : PulseClass) {s : State} (h : s.Inv) : (showSym c s).Inv :=
  ⟨h.index_le, h.waiting_clear, h.bits_below, h.dead_waiting, h.dead_le⟩

theorem inv_afterFrame (f : FrameWord) (s : State) : (afterFrame f s).Inv := by
  obtain ⟨hbuf, hidx, hmsg, hdead, hcfg, _⟩ := afterFrame_fields f s
  exact inv_of_cleared hbuf hidx (fun _ => hmsg) (by rw [hdead, hcfg])

/-- A bit before the 12th is written at `bit_index` and leaves room for itself below the next index. -/
theorem inv_nextBit (v : Bool) {s : State} (h : s.Inv) (hmsg : s.messageValid = true) (hi : s.bitIndex.toNat ≤ 10) :
    State.Inv { s with
      bitBuffer := if v then setBit s.bitBuffer s.bitIndex.toNat else s.bitBuffer, bitIndex := s.bitIndex + 1#4 } := by
  have hsucc : (s.bitIndex + 1#4).toNat = s.bitIndex.toNat + 1 := by bv_omega
  refine ⟨?_, fun hw => ?_, ?_, h.dead_waiting, h.dead_le⟩
  · rw [hsucc]; omega
  · rw [hmsg] at hw; contradiction
  · rw [hsucc]
    cases v with
    | true => exact setBit_lt h.bits_below (by omega)
    | false => exact h.bits_below.trans (Nat.pow_lt_pow_succ Nat.one_lt_two)

/-- A pulse is observed outside the dead time only: a START in a dead time would break item 4. -/
theorem inv_onPulse (c : PulseClass) {s : State} (h : s.Inv) (hdead : s.deadCnt = 0) : (onPulse c s).Inv := by
  rcases onPulse_cases c s with ⟨_, heq⟩ | ⟨_, heq⟩ | ⟨v, _, hmsg, hi, heq⟩ | ⟨v, _, _, _, heq⟩ <;> rw [heq]
  · exact h
  · exact inv_of_cleared rfl rfl (fun hne => absurd hdead hne) h.dead_le
  · exact inv_nextBit v h hmsg hi
  · exact inv_afterFrame _ s

/-- In the dead time nothing of a message is kept. -/
theorem State.Inv.cleared_of_dead {s : State} (h : s.Inv) (hdead : s.deadCnt ≠ 0) :
    s.bitIndex = 0#4 ∧ s.bitBuffer = 0x000#12 :=
  h.waiting_clear (h.dead_waiting hdead)

/-- Settles O3: a reset, a tick of the dead time, an observed pulse and an idle step each keep the invariant. -/
theorem stepKeepsInvariant : Obligations.StepKeepsInvariant := by
  intro s t hInv hstep
  have hOpen := inv_openOutputs_consumeInput hInv
  rcases step_cases hstep with ⟨_, rfl⟩ | ⟨_, hdead, rfl⟩ | ⟨c, ⟨_, hdead, _⟩, rfl⟩ | ⟨_, _, _, rfl⟩
  · exact inv_of_cleared rfl rfl (fun _ => rfl) (Nat.zero_le _)
  · obtain ⟨hidx, hbuf⟩ := hInv.cleared_of_dead hdead
    have hle := hInv.dead_le
    exact inv_of_cleared (by simpa) (by simpa) (fun _ => by simpa using hInv.dead_waiting hdead) (by simp; omega)
  · exact inv_onPulse c (inv_showSym c hOpen) (by simpa)
  · exact hOpen

/-- Settles O2: at reset nothing is kept and no dead time runs; the free parameters are legal by their offsets. -/
theorem resetSatisfiesInvariant : Obligations.ResetSatisfiesInvariant :=
  ⟨inv_of_cleared rfl rfl (fun _ => rfl) (Nat.zero_le _), Nat.le_add_left _ _, Nat.le_add_left _ _, Nat.le_add_left _ _⟩

/-- Settles O1, by the literal of the reset state. -/
theorem resetClearsFourRegisters : Obligations.ResetClearsFourRegisters := ⟨rfl, rfl, rfl, rfl, rfl⟩

/-! ### Parameters and inputs -/

/-- Settles O6: the input is taken by `consumeInput`, and no other operation writes the two fields. -/
theorem stepNeverChangesParameters : Obligations.StepNeverChangesParameters := by
  intro s t hstep
  rcases step_cases hstep with ⟨_, rfl⟩ | ⟨_, _, rfl⟩ | ⟨c, _, rfl⟩ | ⟨_, _, _, rfl⟩ <;> simp

/-! ### The dead time -/

theorem afterFrame_deadCnt (f : FrameWord) (s : State) : (afterFrame f s).deadCnt = s.cfg.deadCycles := by
  obtain ⟨_, _, _, hdead, _⟩ := afterFrame_fields f s
  exact hdead

/-- A pulse leaves `dead_cnt` alone unless it is a data pulse that completes a message. -/
theorem onPulse_deadCnt (c : PulseClass) (s : State) :
    (onPulse c s).deadCnt = s.deadCnt ∨
    ((onPulse c s).deadCnt = s.cfg.deadCycles ∧ s.messageValid = true ∧ 11 ≤ s.bitIndex.toNat ∧ ∃ v, c = bitClass v) := by
  rcases onPulse_cases c s with ⟨_, heq⟩ | ⟨_, heq⟩ | ⟨_, _, _, _, heq⟩ | ⟨v, hc, hmsg, hi, heq⟩ <;> rw [heq]
  · exact .inl rfl
  · exact .inl rfl
  · exact .inl rfl
  · exact .inr ⟨afterFrame_deadCnt _ s, hmsg, hi, v, hc⟩

theorem State.observes_data {s : State} {v : Bool} (h : s.observes (bitClass v)) : s.observes .one ∨ s.observes .zero := by
  cases v with
  | true => exact .inl h
  | false => exact .inr h

theorem State.Inv.index_eq_eleven {s : State} (h : s.Inv) (hi : 11 ≤ s.bitIndex.toNat) : s.bitIndex = 11#4 :=
  BitVec.eq_of_toNat_eq (h.index_le.antisymm hi)

/-- A dead time begins only by finalization: no other operation raises `dead_cnt` from 0. -/
theorem step_deadCnt_of_zero {s t : State} (hInv : s.Inv) (hstep : step s = .next t) (hs : s.deadCnt = 0)
    (ht : t.deadCnt ≠ 0) :
    t.deadCnt = s.cfg.deadCycles ∧ s.messageValid = true ∧ s.bitIndex = 11#4 ∧ (s.observes .one ∨ s.observes .zero) := by
  rcases step_cases hstep with ⟨_, rfl⟩ | ⟨_, hdead, _⟩ | ⟨c, hobs, rfl⟩ | ⟨_, _, _, rfl⟩
  · exact absurd rfl ht
  · exact absurd hs hdead
  · rcases onPulse_deadCnt c (showSym c (openOutputs (consumeInput s))) with hsame | ⟨hload, hmsg, hi, v, rfl⟩
    · exact absurd (by simpa [hs] using hsame) ht
    · exact ⟨by simpa using hload, by simpa using hmsg, hInv.index_eq_eleven (by simpa using hi), State.observes_data hobs⟩
  · exact absurd (by simpa using hs) ht

/-- In the dead time a step counts, or resets the count. -/
theorem step_deadCnt_of_ne_zero {s t : State} (hstep : step s = .next t) (hs : s.deadCnt ≠ 0) :
    t.deadCnt = if (nextInput s).rst then 0 else s.deadCnt - 1 := by
  rcases step_cases hstep with ⟨hrst, rfl⟩ | ⟨hrst, _, rfl⟩ | ⟨_, ⟨_, hdead, _⟩, _⟩ | ⟨_, hdead, _⟩
  · simp [hrst]
  · simp [hrst]
  · exact absurd hdead hs
  · exact absurd hdead hs

/-- Settles O37, from its two halves. -/
theorem deadTimeOnlyFromFinalization : Obligations.DeadTimeOnlyFromFinalization :=
  fun _ _ hInv hstep => ⟨step_deadCnt_of_zero hInv hstep, step_deadCnt_of_ne_zero hstep⟩

/-! ### The opening of a message -/

/-- Of the classes only START sets `message_valid`. -/
theorem class_eq_start_of_onPulse_opens {c : PulseClass} {s : State} (hs : s.messageValid = false)
    (ht : (onPulse c s).messageValid = true) : c = .start := by
  rcases onPulse_cases c s with ⟨_, heq⟩ | ⟨hc, _⟩ | ⟨_, _, hmsg, _⟩ | ⟨_, _, hmsg, _⟩
  · rw [heq, hs] at ht; contradiction
  · exact hc
  · rw [hs] at hmsg; contradiction
  · rw [hs] at hmsg; contradiction

/-- Settles O38: of the four kinds of step only an observed pulse can set `message_valid`, and then it is a START. -/
theorem onlyStartOpensMessage : Obligations.OnlyStartOpensMessage := by
  intro s t hstep hs ht
  rcases step_cases hstep with ⟨_, rfl⟩ | ⟨_, _, rfl⟩ | ⟨c, hobs, rfl⟩ | ⟨_, _, _, rfl⟩
  · simp at ht
  · simp [hs] at ht
  · obtain rfl := class_eq_start_of_onPulse_opens (by simpa) ht
    exact ⟨hobs, rfl, rfl⟩
  · simp [hs] at ht

/-! ### A data bit out of range -/

/-- A bit index above 11 names no bit of the buffer (10_state.md R30). -/
theorem setBit_of_twelve_le (buf : FrameWord) {n : Nat} (hn : 12 ≤ n) : setBit buf n = buf := by
  rw [setBit, BitVec.shiftLeft_eq_zero hn, BitVec.or_zero]

theorem takeBit_of_twelve_le (v : Bool) {s : State} (hmsg : s.messageValid = true) (hi : 12 ≤ s.bitIndex.toNat) :
    takeBit v s = afterFrame s.bitBuffer s := by
  rw [takeBit_final v hmsg (by omega), setBit_of_twelve_le _ hi, ite_self]

/-- Settles O17: both data pulses take a bit that the buffer does not have. -/
theorem indexAboveElevenFinalizes : Obligations.IndexAboveElevenFinalizes := fun _ hmsg hi =>
  ⟨congrArg _ (takeBit_of_twelve_le true hmsg hi), congrArg _ (takeBit_of_twelve_le false hmsg hi)⟩

end Sys2Proof.Machine
end

section
/-! The contents of the translation table (20_memory.md R44 to R62). -/

namespace Sys2Proof.Machine

/-- Settles O20: each read runs through the cells of the table to the cell of its digit key. -/
theorem tableHoldsDigitKeys : Obligations.TableHoldsDigitKeys := by
  unfold Obligations.TableHoldsDigitKeys
  decide

/-- Settles O21: each read runs through the cells of the table to the cell of its function key. -/
theorem tableHoldsFunctionKeys : Obligations.TableHoldsFunctionKeys := by
  unfold Obligations.TableHoldsFunctionKeys
  decide

/-- The unlisted addresses are the gaps between the 18 cells: an address is unlisted when it differs from the address of
each cell. -/
theorem isListed_eq_false_iff (b : Button) : isListed b = false ↔
    (b.toNat = 0x0A ∨ (0x0C ≤ b.toNat ∧ b.toNat ≤ 0x0F) ∨ (0x16 ≤ b.toNat ∧ b.toNat ≤ 0x3A) ∨ 0x3C ≤ b.toNat) := by
  simp only [isListed, tableCells, List.cons_append, List.nil_append, List.any_cons, List.any_nil, Bool.or_eq_false_iff,
    beq_eq_false_iff_ne, and_true]
  omega

/-- Settles O22: an address reads as NUL exactly when the table does not list it, and the unlisted addresses are the gaps. -/
theorem tableHoldsNulElsewhere : Obligations.TableHoldsNulElsewhere :=
  fun b => (memRead_eq_nul_iff b).trans (isListed_eq_false_iff b)

end Sys2Proof.Machine
end

section
/-! Pulse classes as tick ranges (30_encoding.md R83, R84): a class is determined by its code, the code is `min(q, 3)`, and a
bound on `q` is a bound on the exact product. The lowest tick count of a class, which a class token stands for, has that class. -/

namespace Sys2Proof.Machine

@[simp] theorem classOfCode_symCode (c : PulseClass) : classOfCode (symCode c) = c := by cases c <;> rfl

@[simp] theorem symCode_classOfCode : ∀ w : SymWord, symCode (classOfCode w) = w := by decide

theorem symCode_injective : Function.Injective symCode := Function.LeftInverse.injective classOfCode_symCode

theorem classify_eq_iff (p : Params) (t : Nat) (c : PulseClass) :
    classify p t = c ↔ min (quantize p t) 3 = (symCode c).toNat := by
  rw [← symCode_classify, BitVec.toNat_inj, symCode_injective.eq_iff]

theorem le_quantize_iff {p : Params} (h : p.Legal) (t n : Nat) : n ≤ quantize p t ↔ n * p.denom ≤ t * p.k :=
  Nat.le_div_iff_mul_le h.2.2

/-- Settles O8: each class is a range of `q`, whose ends are the three bounds on the product. -/
theorem classesAreContiguousTickRanges : Obligations.ClassesAreContiguousTickRanges := by
  intro p t hp
  have h1 := le_quantize_iff hp t 1
  have h2 := le_quantize_iff hp t 2
  have h3 := le_quantize_iff hp t 3
  simp only [classify_eq_iff, symCode, BitVec.toNat_ofNat]
  omega

theorem lowestTick_classify_le {p : Params} (hp : p.Legal) (t : Nat) : lowestTick p (classify p t) ≤ t := by
  rw [lowestTick, symCode_classify, threshold_le_iff hp, ← le_quantize_iff hp]
  exact min_le_left _ _

/-- The lowest tick count of a class that some measurement has is a measurement of that class: `q` is high enough there by the
threshold, and not too high because it is monotone. -/
theorem classify_lowestTick_classify {p : Params} (hp : p.Legal) (t : Nat) :
    classify p (lowestTick p (classify p t)) = classify p t := by
  have hlow : min (quantize p t) 3 ≤ quantize p (lowestTick p (classify p t)) := by
    rw [le_quantize_iff hp, ← symCode_classify, ← threshold_le_iff hp, lowestTick]
  have hhigh := quantize_mono p (lowestTick_classify_le hp t)
  rw [classify_eq_iff, symCode_classify]
  omega

theorem classify_zero (p : Params) : classify p 0 = .zero := by simp [classify, quantize]

end Sys2Proof.Machine
end

section
/-! The fields of a frame as numbers (30_encoding.md R87, R88), and the message that carries a frame (R86). -/

namespace Sys2Proof.Machine

/-! ### The split and the composition -/

theorem toNat_frameButton (f : FrameWord) : (frameButton f).toNat = f.toNat % 128 := by
  rw [frameButton_eq, BitVec.toNat_ofNat, Nat.mod_mod]

/-- The mask of a mode code, after a shift by seven, is a remainder by 32. -/
theorem shiftRight_and_modeMask (n : Nat) : n >>> 7 &&& 0x1F = n / 128 % 32 := by
  rw [Nat.shiftRight_eq_div_pow]; exact Nat.and_two_pow_sub_one_eq_mod _ 5

theorem toNat_frameMode (f : FrameWord) : (frameMode f).toNat = f.toNat / 128 := by
  have hf := f.isLt
  simp only [frameMode, BitVec.toNat_setWidth, BitVec.toNat_and, BitVec.toNat_ushiftRight, BitVec.toNat_ofNat,
    Nat.reducePow, Nat.reduceMod, shiftRight_and_modeMask]
  omega

/-- Settles O18: both masks are remainders by powers of two, so the split is division of the frame's number by 128. -/
theorem frameSplitLosesNothing : Obligations.FrameSplitLosesNothing := by
  intro f
  have hf := f.isLt
  have hlow : f.toNat &&& 0x7F = f.toNat % 128 := Nat.and_two_pow_sub_one_eq_mod _ 7
  refine ⟨?_, ?_, BitVec.eq_of_toNat_eq ?_, BitVec.eq_of_toNat_eq ?_, ?_⟩
  · rw [toNat_frameButton, hlow]
  · rw [toNat_frameMode, shiftRight_and_modeMask]; omega
  · simp [toNat_frameButton]
  · simp [toNat_frameMode, Nat.shiftRight_eq_div_pow]; omega
  · rw [toNat_frameMode, toNat_frameButton]; omega

@[simp] theorem composeFrame_split (f : FrameWord) : composeFrame (frameMode f) (frameButton f) = f := by
  ext i hi; simp only [frameMode, frameButton, composeFrame]; interval_cases i <;> simp

/-- Settles O19, from the two directions. -/
theorem frameComposeInvertsSplit : Obligations.FrameComposeInvertsSplit :=
  ⟨fun m b => ⟨frameMode_composeFrame m b, frameButton_composeFrame m b⟩, composeFrame_split⟩

/-- A frame and the mask of its mode bits: what the table's row KEY_UNMAPPED compares (30_encoding.md R96). -/
theorem toNat_and_modeMask (f : FrameWord) : f.toNat &&& 0xF80 = 128 * (f.toNat / 128) := by
  have hf := f.isLt
  have hhigh : (f.toNat &&& 0xF80) / 2 ^ 7 = f.toNat / 2 ^ 7 % 2 ^ 5 := by
    rw [← Nat.shiftRight_eq_div_pow, Nat.shiftRight_and_distrib, Nat.shiftRight_eq_div_pow]
    exact Nat.and_two_pow_sub_one_eq_mod _ 5
  have hlow : (f.toNat &&& 0xF80) % 2 ^ 7 = 0 := by
    rw [Nat.and_mod_two_pow]; exact Nat.and_zero _
  omega

/-! ### The message of a frame -/

theorem mem_tail_messageClasses {f : FrameWord} {c : PulseClass} (h : c ∈ (messageClasses f).tail) :
    c = .one ∨ c = .zero := by
  obtain ⟨i, _, rfl⟩ := List.mem_map.mp h
  cases f.getLsbD i with
  | true => exact .inl rfl
  | false => exact .inr rfl

@[simp] theorem bitClass_eq_one_iff (v : Bool) : bitClass v = .one ↔ v = true := by cases v <;> simp [bitClass]

/-- The data classes of a message are the bits of its frame. -/
theorem bits_tail_messageClasses (f : FrameWord) :
    (messageClasses f).tail.map (fun c => decide (c = .one)) = (List.range 12).map (fun i => f.toNat.testBit i) := by
  simp [messageClasses, Config.frameBits, Function.comp_def, BitVec.testBit_toNat]

/-- Settles O52: the message is a START and the 12 bits of its frame, listed from the lowest. -/
theorem messageCarriesFrame : Obligations.MessageCarriesFrame := by
  intro f
  refine ⟨by simp [messageClasses, Config.frameBits], rfl, ?_, fun c => mem_tail_messageClasses⟩
  rw [bits_tail_messageClasses]
  exact bitsValue_testBits 12 f.toNat f.isLt

/-! ### The tokens of a message -/

@[simp] theorem tokenInput_classToken (p : Params) (c : PulseClass) : tokenInput p (classToken c) = pulseInput p c := by
  cases c <;> rfl

/-- The port can show a class: some tick count that fits it has that class (30_encoding.md R94). -/
def Shows (p : Params) (c : PulseClass) : Prop := ∃ n, n < 2 ^ p.tickW ∧ classify p n = c

theorem shows_zero (p : Params) : Shows p .zero := ⟨0, Nat.two_pow_pos _, classify_zero p⟩

/-- A class the port can show is delivered by its lowest tick count, which fits the port. -/
theorem Shows.pulseClass_pulseInput {p : Params} {c : PulseClass} (hc : Shows p c) (hp : p.Legal) :
    (pulseInput p c).pulseClass p = c := by
  obtain ⟨n, hn, rfl⟩ := hc
  rw [Input.pulseClass, pulseInput, Nat.mod_eq_of_lt ((lowestTick_classify_le hp n).trans_lt hn),
    classify_lowestTick_classify hp]

theorem pulseClasses_classTokens {p : Params} (hp : p.Legal) {cs : List PulseClass} (h : ∀ c ∈ cs, Shows p c) :
    pulseClasses p ((cs.map classToken).map (tokenInput p)) = cs := by
  induction cs with
  | nil => rfl
  | cons c cs ih =>
    obtain ⟨hc, hcs⟩ := List.forall_mem_cons.mp h
    rw [List.map_cons, List.map_cons, tokenInput_classToken]
    exact congrArg₂ List.cons (hc.pulseClass_pulseInput hp) (ih hcs)

theorem shows_of_mem_messageClasses {p : Params} (hstart : Shows p .start) (hone : Shows p .one) (f : FrameWord) :
    ∀ c ∈ messageClasses f, Shows p c := by
  refine List.forall_mem_cons.mpr ⟨hstart, fun c hc => ?_⟩
  obtain rfl | rfl := mem_tail_messageClasses (f := f) hc
  · exact hone
  · exact shows_zero p

theorem composeFrame_acceptMode (b : Button) : composeFrame Config.acceptMode b = 0x080#12 ||| b.setWidth 12 := rfl

/-- Settles O53: every class of a message is one the port can show, so each token delivers its class. -/
theorem messageTokensCarryFrame : Obligations.MessageTokensCarryFrame := by
  intro p b m hp hstart hone
  refine ⟨pulseClasses_classTokens hp (shows_of_mem_messageClasses hstart hone _), ?_⟩
  rw [← composeFrame_acceptMode]
  exact pulseClasses_classTokens hp (shows_of_mem_messageClasses hstart hone _)

end Sys2Proof.Machine
end

section
/-! The decoder and the encoder (30_encoding.md R83, R88 to R92, R96), a format at a time: a CTL word is its three bits, a SYM
word is the code of a class, and a FRAME word has an exact row just when its mode is accepted and its button is listed. -/

namespace Sys2Proof.Machine

/-! ### Format CTL -/

theorem getLsbD_ctlWord : ∀ rst dead pv : Bool, (ctlWord rst dead pv).getLsbD 2 = rst ∧
    (ctlWord rst dead pv).getLsbD 1 = dead ∧ (ctlWord rst dead pv).getLsbD 0 = pv := by decide

/-- Settles O50: the decoder tests the word's bits in the order the statement gives. -/
theorem controlWordPriority : Obligations.ControlWordPriority := by
  intro rst dead pv n
  obtain ⟨hrst, hdead, hpv⟩ := getLsbD_ctlWord rst dead pv
  rw [decode, decodeCtl, hrst, hdead, hpv]

/-- Everything the CTL decoder can answer. -/
theorem decode_ctl_cases (w : CtlWord) (n : Nat) :
    (w.getLsbD 2 = true ∧ decode (.ctl w n) = .reset) ∨
    (w.getLsbD 2 = false ∧ w.getLsbD 1 = true ∧ decode (.ctl w n) = .deadTick) ∨
    (w = 0b001#3 ∧ decode (.ctl w n) = .pulse n) ∨ (w = 0b000#3 ∧ decode (.ctl w n) = .idle) := by
  rw [decode, decodeCtl]
  split_ifs with hrst hdead hpv
  · exact .inl ⟨hrst, rfl⟩
  · exact .inr (.inl ⟨by simpa using hrst, hdead, rfl⟩)
  · exact .inr (.inr (.inl ⟨by revert w; decide, rfl⟩))
  · exact .inr (.inr (.inr ⟨by revert w; decide, rfl⟩))

/-- The TICK word beside a CTL word plays no part in the choice of the row. -/
theorem mnemonic_decode_ctl (w : CtlWord) (n : Nat) : (decode (.ctl w n)).mnemonic = (decode (.ctl w 0)).mnemonic := by
  simp only [decode, decodeCtl]
  split_ifs <;> rfl

theorem mnemonic_firstRow_ctl : ∀ w : CtlWord,
    (firstRow (.ctl w 0)).map (fun r => r.mnemonic) = some (decode (.ctl w 0)).mnemonic := by decide

theorem encode_decode_ctl (w : CtlWord) (n : Nat) : ∃ (v : CtlWord) (m : Nat), encode (decode (.ctl w n)) = .ctl v m ∧
    decode (.ctl v m) = decode (.ctl w n) ∧ v &&& w = v ∧ (w = 0b001#3 → v = w ∧ m = n) := by
  rcases decode_ctl_cases w n with ⟨hrst, heq⟩ | ⟨_, hdead, heq⟩ | ⟨rfl, heq⟩ | ⟨rfl, heq⟩ <;> rw [heq]
  · exact ⟨0b100#3, 0, rfl, rfl, by clear heq; revert w; decide, by rintro rfl; contradiction⟩
  · exact ⟨0b010#3, 0, rfl, rfl, by clear heq; revert w; decide, by rintro rfl; contradiction⟩
  · exact ⟨0b001#3, n, rfl, rfl, rfl, fun _ => ⟨rfl, rfl⟩⟩
  · exact ⟨0b000#3, 0, rfl, rfl, rfl, fun h => absurd h (by decide)⟩

theorem wf_decode_ctl {p : Params} (w : CtlWord) {n : Nat} (hn : n < 2 ^ p.tickW) : (decode (.ctl w n)).wf p = true := by
  rcases decode_ctl_cases w n with ⟨_, heq⟩ | ⟨_, _, heq⟩ | ⟨_, heq⟩ | ⟨_, heq⟩ <;> rw [heq]
  · rfl
  · rfl
  · exact decide_eq_true hn
  · rfl

/-! ### Format SYM -/

theorem decode_sym (w : SymWord) : decode (.sym w) = symInstr (classOfCode w) := by
  simp only [decode, decodeSym, classOfCode]
  split_ifs <;> rfl

theorem encode_symInstr (c : PulseClass) : encode (symInstr c) = .sym (symCode c) := by cases c <;> rfl

theorem wf_symInstr (p : Params) (c : PulseClass) : (symInstr c).wf p = true := by cases c <;> rfl

theorem encode_decode_sym (w : SymWord) : encode (decode (.sym w)) = .sym w := by
  rw [decode_sym, encode_symInstr, symCode_classOfCode]

theorem mnemonic_firstRow_sym : ∀ w : SymWord,
    (firstRow (.sym w)).map (fun r => r.mnemonic) = some (decode (.sym w)).mnemonic := by decide

/-! ### Format FRAME -/

/-- The frames with an exact row are those of the accepted mode with a listed button. -/
theorem exists_keyRow_iff (f : FrameWord) :
    (∃ r ∈ keyRows, r.1 = f) ↔ frameMode f = Config.acceptMode ∧ isListed (frameButton f) = true := by
  constructor
  · rintro ⟨r, hr, rfl⟩
    exact isListed_keyRow r hr
  · rintro ⟨hmode, hlisted⟩
    have hfind := keyRow_of_isListed _ hlisted
    rw [← hmode, composeFrame_split, List.find?_isSome] at hfind
    obtain ⟨r, hr, hrf⟩ := hfind
    exact ⟨r, hr, eq_of_beq hrf⟩

theorem decodeFrame_unmapped {f : FrameWord} (hmode : frameMode f = Config.acceptMode)
    (hlisted : isListed (frameButton f) = false) : decodeFrame f = .keyUnmapped (frameButton f) := by
  rcases decodeFrame_cases f with ⟨r, hr, hrf, _⟩ | ⟨_, _, heq⟩ | ⟨_, hne, _⟩
  · obtain ⟨_, htrue⟩ := (exists_keyRow_iff f).mp ⟨r, hr, hrf⟩
    rw [hlisted] at htrue; contradiction
  · exact heq
  · exact absurd hmode hne

theorem decodeFrame_wrongMode {f : FrameWord} (hmode : frameMode f ≠ Config.acceptMode) :
    decodeFrame f = .msgWrongMode (frameMode f) (frameButton f) := by
  rcases decodeFrame_cases f with ⟨r, hr, hrf, _⟩ | ⟨_, hacc, _⟩ | ⟨_, _, heq⟩
  · obtain ⟨hacc, _⟩ := (exists_keyRow_iff f).mp ⟨r, hr, hrf⟩
    exact absurd hacc hmode
  · exact absurd hacc hmode
  · exact heq

theorem encode_decode_frame (f : FrameWord) : encode (decode (.frame f)) = .frame f := by
  rw [decode]
  rcases decodeFrame_cases f with ⟨r, hr, rfl, heq⟩ | ⟨_, hmode, heq⟩ | ⟨_, _, heq⟩ <;> rw [heq]
  · exact encode_keyRow r hr
  · rw [encode, ← hmode, composeFrame_split]
  · rw [encode, composeFrame_split]

theorem wf_keyRow (p : Params) : ∀ r ∈ keyRows, r.2.wf p = true := by simp [keyRows, Instr.wf]

theorem wf_decode_frame (p : Params) (f : FrameWord) : (decode (.frame f)).wf p = true := by
  rw [decode]
  rcases decodeFrame_cases f with ⟨r, hr, _, heq⟩ | ⟨hnone, hmode, heq⟩ | ⟨_, hmode, heq⟩ <;> rw [heq]
  · exact wf_keyRow p r hr
  · have hlisted : ¬isListed (frameButton f) = true := fun hl => by
      obtain ⟨r, hr, hrf⟩ := (exists_keyRow_iff f).mpr ⟨hmode, hl⟩
      exact hnone r hr hrf
    simpa [Instr.wf] using hlisted
  · simpa [Instr.wf] using hmode

/-! ### The FRAME rows of the opcode table -/

/-- The opcode-table row of an exact FRAME row of the decoder. -/
def keyOpcodeRow (r : FrameWord × Instr) : OpcodeRow := ⟨r.2.mnemonic, .frame, r.1.toNat, 0xFFF⟩

/-- The two FRAME rows that leave bits open, in file order. -/
def openFrameRows : List OpcodeRow :=
  [⟨"KEY_UNMAPPED", .frame, 0x080, 0xF80⟩, ⟨"MSG_WRONG_MODE", .frame, 0x000, 0x000⟩]

theorem frameRows_eq : frameRows = keyRows.map keyOpcodeRow ++ openFrameRows := rfl

/-- An exact row's full mask compares the whole frame, as the decoder does. -/
theorem keyOpcodeRow_matches_iff (f : FrameWord) (r : FrameWord × Instr) :
    (f.toNat &&& (keyOpcodeRow r).mask == (keyOpcodeRow r).matchBits) = (r.1 == f) := by
  have hmask : f.toNat &&& 0xFFF = f.toNat := Nat.and_two_pow_sub_one_of_lt_two_pow f.isLt
  rw [Bool.eq_iff_iff, beq_iff_eq, beq_iff_eq, keyOpcodeRow, hmask, BitVec.toNat_inj, eq_comm]

theorem firstRow_frame (f : FrameWord) : firstRow (.frame f) =
    ((keyRows.find? (fun r => r.1 == f)).map keyOpcodeRow).or
      (openFrameRows.find? (fun r => f.toNat &&& r.mask == r.matchBits)) := by
  simp only [firstRow, Code.format, opcodeRows, Code.bits, frameRows_eq, List.find?_append, List.find?_map,
    Function.comp_def, keyOpcodeRow_matches_iff]

theorem find?_openFrameRows (f : FrameWord) :
    (openFrameRows.find? (fun r => f.toNat &&& r.mask == r.matchBits)).map (fun r => r.mnemonic) =
      some (if frameMode f = Config.acceptMode then "KEY_UNMAPPED" else "MSG_WRONG_MODE") := by
  have hunmapped : f.toNat &&& 0xF80 = 0x080 ↔ frameMode f = Config.acceptMode := by
    rw [toNat_and_modeMask, frameMode_eq_accept]; omega
  by_cases hmode : frameMode f = Config.acceptMode
  · simp [openFrameRows, hunmapped, hmode]
  · simp [openFrameRows, hunmapped, hmode]

theorem mnemonic_firstRow_frame (f : FrameWord) :
    (firstRow (.frame f)).map (fun r => r.mnemonic) = some (decode (.frame f)).mnemonic := by
  rw [firstRow_frame, decode, decodeFrame]
  cases keyRows.find? (fun r => r.1 == f) with
  | some r => rfl
  | none =>
    simp only [Option.map_none, Option.none_or, find?_openFrameRows]
    split_ifs <;> rfl

/-! ### All formats -/

/-- Settles O46: a word without an operand is a closed one; the frames of the two rows with operands have no exact row, by the
button for the one and by the mode for the other, and split into the operands they were composed of. -/
theorem decodeEncodeIsIdentity : Obligations.DecodeEncodeIsIdentity := by
  intro p i hwf
  cases i with
  | keyUnmapped b =>
    have hlisted : isListed b = false := by simpa [Instr.wf] using hwf
    rw [encode, decode, decodeFrame_unmapped (by simp) (by simpa), frameButton_composeFrame]
  | msgWrongMode m b =>
    have hmode : m ≠ Config.acceptMode := by simpa [Instr.wf] using hwf
    rw [encode, decode, decodeFrame_wrongMode (by simpa), frameMode_composeFrame, frameButton_composeFrame]
  | _ => rfl

/-- Settles O47, a format at a time. -/
theorem encodeDecodeIsIdentity : Obligations.EncodeDecodeIsIdentity :=
  ⟨encode_decode_sym, encode_decode_frame, encode_decode_ctl⟩

/-- Settles O48, a format at a time. -/
theorem decodedIsWellFormed : Obligations.DecodedIsWellFormed := fun p =>
  ⟨fun w _ => wf_decode_ctl w, fun w => decode_sym w ▸ wf_symInstr p _, wf_decode_frame p⟩

/-- Settles O49, a format at a time. -/
theorem decoderIsFirstTableMatch : Obligations.DecoderIsFirstTableMatch := by
  intro c
  cases c with
  | ctl w n => exact (mnemonic_firstRow_ctl w).trans (congrArg some (mnemonic_decode_ctl w n).symm)
  | sym w => exact mnemonic_firstRow_sym w
  | frame f => exact mnemonic_firstRow_frame f

/-- Settles O51: each word is a closed one. -/
theorem writtenWordsDecode : Obligations.WrittenWordsDecode := by
  unfold Obligations.WrittenWordsDecode
  decide

end Sys2Proof.Machine
end

section
/-! The FRAME rows of the listed keys, run on a state (30_encoding.md R89): each delivers its button, whose byte the table
holds. -/

namespace Sys2Proof.Machine

/-- Delivering a button leaves what its byte leaves (42_finalize_translate.md R144 to R146). -/
theorem deliver_eq_afterKey {b : Button} {ch : Byte} (h : memRead b = ch) (s : State) : deliver b s = afterKey ch s := by
  subst h; rfl

theorem next_deliver_of_memRead {b : Button} {ch : Byte} (h : memRead b = ch) (s : State) :
    (.next (deliver b s) : Host.Outcome State Fault Refusal) = .next (afterKey ch s) :=
  congrArg _ (deliver_eq_afterKey h s)

/-- Settles O23, by the bytes the table holds for the digit keys. -/
theorem digitKeysTransmit : Obligations.DigitKeysTransmit := by
  intro s
  obtain ⟨h1, h2, h3, h4, h5, h6, h7, h8, h9, h0⟩ := tableHoldsDigitKeys
  exact ⟨next_deliver_of_memRead h1 s, next_deliver_of_memRead h2 s, next_deliver_of_memRead h3 s,
    next_deliver_of_memRead h4 s, next_deliver_of_memRead h5 s, next_deliver_of_memRead h6 s, next_deliver_of_memRead h7 s,
    next_deliver_of_memRead h8 s, next_deliver_of_memRead h9 s, next_deliver_of_memRead h0 s⟩

/-- Settles O24, by the bytes the table holds for the function keys. -/
theorem functionKeysTransmit : Obligations.FunctionKeysTransmit := by
  intro s
  obtain ⟨hChUp, hChDown, hVolUp, hVolDown, hMute, hPower, hEnter, hClear⟩ := tableHoldsFunctionKeys
  exact ⟨next_deliver_of_memRead hChUp s, next_deliver_of_memRead hChDown s, next_deliver_of_memRead hVolUp s,
    next_deliver_of_memRead hVolDown s, next_deliver_of_memRead hMute s, next_deliver_of_memRead hPower s,
    next_deliver_of_memRead hEnter s, next_deliver_of_memRead hClear s⟩

end Sys2Proof.Machine
end

section
/-! The classifier by its quantized duration and by its thresholds (40_classifier.md R111, R112, R117): a threshold is reached
when `q` reaches its number, so a comparison with the thresholds is one of `q` with 1, 2 and 3. -/

namespace Sys2Proof.Machine

theorem threshold_le_iff_le_quantize {p : Params} (hp : p.Legal) (t n : Nat) : threshold p n ≤ t ↔ n ≤ quantize p t :=
  (threshold_le_iff hp t n).trans (le_quantize_iff hp t n).symm

theorem lt_threshold_iff_quantize_lt {p : Params} (hp : p.Legal) (t n : Nat) : t < threshold p n ↔ quantize p t < n :=
  lt_iff_lt_of_le_iff_le (threshold_le_iff_le_quantize hp t n)

theorem threshold_mono {p : Params} (hp : p.Legal) : Monotone (threshold p) := fun m n hmn =>
  (threshold_le_iff_le_quantize hp _ m).mpr (hmn.trans ((threshold_le_iff_le_quantize hp _ n).mp le_rfl))

/-- Settles O9: the thresholds are monotone in their number, and each comparison with one bounds `q`, whose range is the class. -/
theorem classifyByThresholds : Obligations.ClassifyByThresholds := by
  intro p t hp
  refine ⟨threshold_mono hp (by decide), threshold_mono hp (by decide), ?_⟩
  simp only [lt_threshold_iff_quantize_lt hp, classify_eq_iff]
  split_ifs with hzero hone hstart <;> simp only [symCode, BitVec.toNat_ofNat] <;> omega

/-- Settles O10, from its two halves. -/
theorem lowestTickHasItsClass : Obligations.LowestTickHasItsClass :=
  fun _ t hp => ⟨classify_lowestTick_classify hp t, lowestTick_classify_le hp t⟩

/-- Settles O7: the class is determined by the code `min(q, 3)`. -/
theorem classifyByQuantizedDuration : Obligations.ClassifyByQuantizedDuration := by
  intro p t _
  simp only [classify_eq_iff, quantize, symCode, BitVec.toNat_ofNat]
  omega

end Sys2Proof.Machine
end

section
/-! The bits of a message in progress (41_bit_assembly.md R120 to R129): the SYM operations on the registers, and the event-level
decoder as what one step does to the list of the bits taken so far. -/

namespace Sys2Proof.Machine

/-! ### The bits taken so far -/

/-- Item 3 of the invariant, bit by bit: nothing is written from `bit_index` on. -/
theorem State.Inv.getLsbD_eq_false {s : State} (h : s.Inv) {i : Nat} (hi : s.bitIndex.toNat ≤ i) :
    s.bitBuffer.getLsbD i = false :=
  Nat.testBit_lt_two_pow (h.bits_below.trans_le (Nat.pow_le_pow_right Nat.two_pos hi))

/-- The low `n` bits of a buffer, in order of arrival (30_encoding.md R86). -/
def lowBits (buf : FrameWord) (n : Nat) : List Bool := (List.range n).map (fun i => buf.getLsbD i)

@[simp] theorem length_lowBits (buf : FrameWord) (n : Nat) : (lowBits buf n).length = n := by simp [lowBits]

theorem lowBits_succ (buf : FrameWord) (n : Nat) : lowBits buf (n + 1) = lowBits buf n ++ [buf.getLsbD n] := by
  simp [lowBits, List.range_succ]

/-- The write of bit `n` is above the low `n` bits. -/
theorem lowBits_setBit (buf : FrameWord) {n : Nat} (hn : n ≤ 11) : lowBits (setBit buf n) n = lowBits buf n := by
  refine List.map_congr_left fun i hi => ?_
  have hne : i ≠ n := (List.mem_range.mp hi).ne
  simp [getLsbD_setBit hn, hne]

/-- A data bit written where the buffer holds none yet is appended to the bits taken. -/
theorem lowBits_write {buf : FrameWord} {n : Nat} (v : Bool) (hn : n ≤ 11) (hfree : buf.getLsbD n = false) :
    lowBits (if v then setBit buf n else buf) (n + 1) = lowBits buf n ++ [v] := by
  cases v with
  | true => simp [lowBits_succ, lowBits_setBit buf hn, getLsbD_setBit hn]
  | false => simp [lowBits_succ, hfree]

/-- All 12 bits of a frame stand for its number. -/
theorem bitsValue_lowBits (f : FrameWord) : bitsValue (lowBits f 12) = f.toNat :=
  bitsValue_testBits 12 f.toNat f.isLt

/-- The mode filter on the bits of a frame is the one on its fields (30_encoding.md R87). -/
theorem emission_lowBits (f : FrameWord) :
    emission (lowBits f 12) = if frameMode f = Config.acceptMode then [memRead (frameButton f)] else [] := by
  simp only [emission, bitsValue_lowBits, frameMode_eq_accept, frameButton_eq]

/-! ### The event-level view of a state -/

theorem State.block_accumulating {s : State} (h : s.messageValid = true) :
    s.block = ⟨some (lowBits s.bitBuffer s.bitIndex.toNat), s.deadCnt, s.txTrace⟩ := by
  simp [State.block, lowBits, h]

theorem State.block_waiting {s : State} (h : s.messageValid = false) : s.block = ⟨none, s.deadCnt, s.txTrace⟩ := by
  simp [State.block, h]

@[simp] theorem State.block_dead (s : State) : s.block.dead = s.deadCnt := rfl

/-- The view is of the registers and the trace alone. -/
@[simp] theorem block_openOutputs_consumeInput (s : State) : (openOutputs (consumeInput s)).block = s.block := by
  simp [State.block]

@[simp] theorem block_showSym (c : PulseClass) (s : State) : (showSym c s).block = s.block := rfl

@[simp] theorem block_setDead (n : Nat) (s : State) : (setDead n s).block = { s.block with dead := n } := rfl

@[simp] theorem block_clearMessage (v : Bool) (s : State) :
    (clearMessage v s).block = { s.block with message := if v then some [] else none } := rfl

theorem block_afterFrame (f : FrameWord) (s : State) :
    (afterFrame f s).block = ⟨none, s.cfg.deadCycles, s.txTrace ++ emission (lowBits f 12)⟩ := by
  obtain ⟨_, _, hmsg, hdead, _, _, _, htrace, _⟩ := afterFrame_fields f s
  rw [State.block_waiting hmsg, hdead, htrace, emission_lowBits]

/-! ### One pulse refines one event -/

/-- A data bit of the registers is one of the event-level decoder, in all three cases of it. -/
theorem block_takeBit (v : Bool) {s : State} (h : s.Inv) : (takeBit v s).block = s.block.takeBit s.cfg v := by
  have hwrite := lowBits_write v h.index_le (h.getLsbD_eq_false le_rfl)
  rcases takeBit_cases v s with ⟨hmsg, heq⟩ | ⟨hmsg, hi, heq⟩ | ⟨hmsg, hi, heq⟩ <;> rw [heq]
  · simp [State.block_waiting hmsg, Block.takeBit]
  · have hsucc : (s.bitIndex + 1#4).toNat = s.bitIndex.toNat + 1 := by bv_omega
    have hne : s.bitIndex.toNat ≠ 11 := by omega
    rw [State.block_accumulating hmsg, State.block_accumulating (by exact hmsg)]
    simp [Block.takeBit, hne, hsucc, hwrite]
  · have hlast : s.bitIndex.toNat = 11 := h.index_le.antisymm hi
    rw [hlast] at hwrite ⊢
    rw [block_afterFrame, hwrite, State.block_accumulating hmsg, hlast]
    simp [Block.takeBit]

/-- One observed pulse (41_bit_assembly.md R120, R129). -/
theorem block_onPulse (c : PulseClass) {s : State} (h : s.Inv) : (onPulse c s).block = s.block.onClass s.cfg c := by
  cases c with
  | start => rfl
  | one => exact block_takeBit true h
  | zero => exact block_takeBit false h
  | ignore => rfl

/-! ### One step refines one event -/

/-- What the port shows is within its width, so reading it through the port changes nothing. -/
theorem nextInput_rawTicks_mod (s : State) :
    (nextInput s).rawTicks % 2 ^ s.cfg.tickW = (nextInput s).rawTicks := by
  unfold nextInput
  split <;> exact Nat.mod_mod _ _

theorem State.observes.pulseClass_nextInput {s : State} {c : PulseClass} (h : s.observes c) :
    (nextInput s).pulseClass s.cfg = c := by
  obtain ⟨_, _, _, hclass⟩ := h
  rw [Input.pulseClass, nextInput_rawTicks_mod, hclass]

/-- Settles O42: a reset, a tick of the dead time, an observed pulse and an idle step each are the event-level step of that kind. -/
theorem stepRefinesEventDecoder : Obligations.StepRefinesEventDecoder := by
  intro s t hInv hstep
  rcases step_cases hstep with ⟨hrst, rfl⟩ | ⟨hrst, hdead, rfl⟩ | ⟨c, hobs, rfl⟩ | ⟨hrst, hdead, hpv, rfl⟩
  · simp [Block.step, hrst]
  · simp [Block.step, hrst, hdead]
  · have hopen := inv_showSym c (inv_openOutputs_consumeInput hInv)
    have hclass := hobs.pulseClass_nextInput
    obtain ⟨hrst, hdead, hpv, _⟩ := hobs
    simp [block_onPulse c hopen, Block.step, hrst, hdead, hpv, hclass]
  · simp [Block.step, hrst, hdead, hpv]

/-! ### The end of a message -/

/-- Of the pulses only a data pulse at `bit_index` 11 or more clears `message_valid`. -/
theorem data_of_onPulse_closes {c : PulseClass} {s : State} (hs : s.messageValid = true)
    (ht : (onPulse c s).messageValid = false) : 11 ≤ s.bitIndex.toNat ∧ ∃ v, c = bitClass v := by
  rcases onPulse_cases c s with ⟨_, heq⟩ | ⟨_, heq⟩ | ⟨_, _, _, _, heq⟩ | ⟨v, hc, _, hi, _⟩
  · simp [heq, hs] at ht
  · simp [heq] at ht
  · simp [heq, hs] at ht
  · exact ⟨hi, v, hc⟩

/-- Settles O39: a tick of the dead time and an idle step keep `message_valid`, so what is left is a reset or a data pulse. -/
theorem messageEndsOnlyByResetOrTwelfthBit : Obligations.MessageEndsOnlyByResetOrTwelfthBit := by
  intro s t hInv hstep hs ht
  rcases step_cases hstep with ⟨hrst, _⟩ | ⟨_, _, rfl⟩ | ⟨c, hobs, rfl⟩ | ⟨_, _, _, rfl⟩
  · exact .inl hrst
  · simp [hs] at ht
  · obtain ⟨hi, v, rfl⟩ := data_of_onPulse_closes (by simpa) ht
    exact .inr ⟨hInv.index_eq_eleven (by simpa using hi), State.observes_data hobs⟩
  · simp [hs] at ht

/-! ### The four SYM operations -/

theorem fetch_of_dead {s : State} (h : s.deadCnt ≠ 0) : fetch s = if (nextInput s).rst then .reset else .deadTick := by
  simp [fetch_eq, isDead, h]

/-- Settles O11: the write of START does not depend on what was there, and in the dead time the control word never selects PULSE. -/
theorem startRestartsMessage : Obligations.StartRestartsMessage := by
  refine ⟨fun _ => rfl, ?_, fun s n hdead => ?_⟩
  · rintro s _ ⟨⟩
    rfl
  · rw [fetch_of_dead hdead]
    split_ifs <;> exact Instr.noConfusion

/-- Finalization of a frame reads the buffer only, and leaves nothing of the registers it found. -/
theorem finalize_of_frame (f : FrameWord) (i : BitVec 4) (s : State) :
    finalize { s with bitBuffer := f, bitIndex := i } = afterFrame f s := by
  rw [finalize_eq]
  unfold afterFrame
  split_ifs <;> rfl

/-- The 12th data bit completes the frame and finalizes it (41_bit_assembly.md R126). -/
theorem takeBit_eleven (v : Bool) {s : State} (hmsg : s.messageValid = true) (hi : s.bitIndex.toNat = 11) :
    takeBit v s = afterFrame (if v then s.bitBuffer ||| 0x800#12 else s.bitBuffer) s := by
  rw [takeBit_final v hmsg hi.ge, hi]
  rfl

/-- Settles O16, by the two values the 12th data bit can have. -/
theorem finalizingDataBit : Obligations.FinalizingDataBit := fun _ hmsg hi =>
  ⟨congrArg _ (takeBit_eleven true hmsg hi), congrArg _ (takeBit_eleven false hmsg hi)⟩

/-- Settles O12: the frame with bit 11 set is the one finalized. -/
theorem oneTakesDataBit : Obligations.OneTakesDataBit := by
  intro s hmsg
  refine ⟨fun hi => congrArg _ (takeBit_next true hmsg hi), fun hi => ?_, fun hInv => hInv.getLsbD_eq_false le_rfl⟩
  rw [finalize_of_frame]
  exact (finalizingDataBit s hmsg hi).1

/-- Settles O13: the frame finalized is the buffer as it stands. -/
theorem zeroTakesDataBit : Obligations.ZeroTakesDataBit := by
  intro s hmsg
  refine ⟨fun hi => congrArg _ (takeBit_next false hmsg hi), fun hi => ?_, fun hInv => hInv.getLsbD_eq_false le_rfl⟩
  exact (finalizingDataBit s hmsg hi).2.trans (congrArg _ (finalize_of_frame s.bitBuffer 12#4 s).symm)

/-- Settles O14: the arm of IGNORE goes on with the state it was given. -/
theorem ignoreChangesNothing : Obligations.IgnoreChangesNothing := fun _ => rfl

/-- Settles O15: a data bit outside a message is not taken. -/
theorem bitBeforeStartIgnored : Obligations.BitBeforeStartIgnored := fun _ hmsg =>
  ⟨congrArg _ (takeBit_waiting true hmsg), congrArg _ (takeBit_waiting false hmsg)⟩

end Sys2Proof.Machine
end

section
/-! Finalization and translation (42_finalize_translate.md R140 to R150): the row a frame decodes to is its finalization, a step
emits only by finalizing an accepted frame, and the pulses of a message bring that finalization about. -/

namespace Sys2Proof.Machine

/-! ### The FRAME row of a frame -/

theorem afterFrame_of_accepted {f : FrameWord} (h : frameMode f = Config.acceptMode) (s : State) :
    afterFrame f s = deliver (frameButton f) s := by
  rw [afterFrame, if_pos ((frameMode_eq_accept f).mp h), deliver_eq_afterKey rfl, frameButton_eq]

theorem afterFrame_of_rejected {f : FrameWord} (h : frameMode f ≠ Config.acceptMode) (s : State) :
    afterFrame f s = endMessage s := by
  rw [afterFrame, if_neg (mt (frameMode_eq_accept f).mpr h)]
  rfl

/-- The row a frame decodes to leaves what the frame's finalization leaves (42_finalize_translate.md R140). -/
theorem exec_decode_frame (f : FrameWord) (s : State) : exec (decode (.frame f)) s = .next (afterFrame f s) := by
  rw [decode]
  rcases decodeFrame_cases f with ⟨r, hr, rfl, heq⟩ | ⟨_, hmode, heq⟩ | ⟨_, hmode, heq⟩ <;> rw [heq]
  · obtain ⟨hmode, _⟩ := isListed_keyRow r hr
    rw [exec_keyRow s r hr, afterFrame_of_accepted hmode]
  · rw [afterFrame_of_accepted hmode]; rfl
  · rw [afterFrame_of_rejected hmode]; rfl

/-- Settles O28: both are what the frame in `bit_buffer` leaves. -/
theorem finalizeRunsDecodedFrame : Obligations.FinalizeRunsDecodedFrame := fun s =>
  ⟨(exec_decode_frame s.bitBuffer s).trans (congrArg _ (finalize_eq s).symm), finalize_eq s⟩

/-- Settles O27, by the fields of what the frame leaves. -/
theorem frameRowFollowsModeFilter : Obligations.FrameRowFollowsModeFilter := by
  intro f s
  obtain ⟨hbuf, hidx, hmsg, hdead, _, _, _, htrace, _⟩ := afterFrame_fields f s
  exact ⟨afterFrame f s, exec_decode_frame f s, htrace, hbuf, hidx, hmsg, hdead⟩

/-- Settles O25: the table holds NUL for an unlisted button. -/
theorem unmappedKeyTransmitsNul : Obligations.UnmappedKeyTransmitsNul := fun b s hb =>
  next_deliver_of_memRead ((memRead_eq_nul_iff b).mpr hb) s

/-! ### The bytes a step emits -/

/-- Between `s` and `t` a data bit `v` completes the frame `f`, whose mode is the accepted one, and the table's byte for its
button is emitted (42_finalize_translate.md R142 to R144). -/
def Delivers (s t : State) (v : Bool) (f : FrameWord) : Prop :=
  f = (if v then setBit s.bitBuffer s.bitIndex.toNat else s.bitBuffer) ∧ s.messageValid = true ∧ 11 ≤ s.bitIndex.toNat ∧
    frameMode f = Config.acceptMode ∧ t.txTrace = s.txTrace ++ [memRead (frameButton f)] ∧
    t.out.tx = some (memRead (frameButton f))

theorem onPulse_emission (c : PulseClass) (s : State) :
    ((onPulse c s).txTrace = s.txTrace ∧ (onPulse c s).out.tx = s.out.tx) ∨
    ∃ v f, c = bitClass v ∧ Delivers s (onPulse c s) v f := by
  rcases onPulse_cases c s with ⟨_, heq⟩ | ⟨_, heq⟩ | ⟨_, _, _, _, heq⟩ | ⟨v, hc, hmsg, hi, heq⟩ <;> rw [heq]
  · exact .inl ⟨rfl, rfl⟩
  · exact .inl ⟨rfl, rfl⟩
  · exact .inl ⟨rfl, rfl⟩
  · generalize hf : (if v then setBit s.bitBuffer s.bitIndex.toNat else s.bitBuffer) = f
    by_cases hmode : frameMode f = Config.acceptMode
    · rw [afterFrame_of_accepted hmode]
      exact .inr ⟨v, f, hc, hf.symm, hmsg, hi, hmode, rfl, rfl⟩
    · rw [afterFrame_of_rejected hmode]
      exact .inl ⟨rfl, rfl⟩

/-- Of the steps only an observed data pulse emits; the others leave the trace and open the port empty. -/
theorem step_emission {s t : State} (h : step s = .next t) :
    (t.txTrace = s.txTrace ∧ t.out.tx = none) ∨ ∃ v f, s.observes (bitClass v) ∧ Delivers s t v f := by
  rcases step_cases h with ⟨_, rfl⟩ | ⟨_, _, rfl⟩ | ⟨c, hobs, rfl⟩ | ⟨_, _, _, rfl⟩
  · exact .inl (by simp)
  · exact .inl (by simp)
  · rcases onPulse_emission c (showSym c (openOutputs (consumeInput s))) with hnone | ⟨v, f, rfl, hdeliver⟩
    · exact .inl (by simpa using hnone)
    · exact .inr ⟨v, f, hobs, by simpa [Delivers] using hdeliver⟩
  · exact .inl (by simp)

/-- Settles O36: under the invariant the data pulse that completes the frame comes at `bit_index` 11. -/
theorem emissionOnlyByTwelfthDataPulse : Obligations.EmissionOnlyByTwelfthDataPulse := by
  intro s t hInv hstep
  rcases step_emission hstep with hnone | ⟨v, f, hobs, hf, hmsg, hi, hmode, htrace, htx⟩
  · exact .inl hnone
  · have hidx := hInv.index_eq_eleven hi
    refine .inr ⟨f, htrace, htx, hmode, hmsg, hidx, ?_⟩
    rw [hidx] at hf
    cases v with
    | true => exact .inl ⟨hobs, hf⟩
    | false => exact .inr ⟨hobs, hf⟩

/-- A byte of the table is visible exactly when its button is listed (42_finalize_translate.md R149). -/
theorem visible_append_memRead (trace : List Byte) (b : Button) :
    visible (trace ++ [memRead b]) = if isListed b then visible trace ++ [memRead b] else visible trace := by
  have hnul := memRead_eq_nul_iff b
  rw [visible, visible, List.filter_append]
  cases hb : isListed b with
  | true => simp [hb ▸ hnul]
  | false => simp [hnul.mpr hb]

/-- Settles O41: the byte a step emits is the table's for some button, and NUL, which is not visible, unless that is listed. -/
theorem visibleOnlyListedCharacters : Obligations.VisibleOnlyListedCharacters := by
  intro s t hstep
  rcases step_emission hstep with ⟨htrace, _⟩ | ⟨_, f, _, _, _, _, _, htrace, _⟩ <;> rw [htrace]
  · exact .inl rfl
  · rw [visible_append_memRead]
    cases hb : isListed (frameButton f) with
    | true => exact .inr ⟨_, hb, rfl⟩
    | false => exact .inl rfl

/-! ### The pulses of a message -/

/-- The input delivers a pulse that a message can be made of (30_encoding.md R86). -/
def Input.counts (p : Params) (i : Input) : Prop := i.pulseValid = true ∧ i.pulseClass p ≠ .ignore

theorem countedClasses_cons_of_counts {p : Params} {i : Input} (h : i.counts p) (ins : List Input) :
    countedClasses p (i :: ins) = i.pulseClass p :: countedClasses p ins := by
  obtain ⟨hpv, hclass⟩ := h
  simp [countedClasses, pulseClasses, hpv, hclass]

theorem countedClasses_cons_of_not_counts {p : Params} {i : Input} (h : ¬i.counts p) (ins : List Input) :
    countedClasses p (i :: ins) = countedClasses p ins := by
  unfold countedClasses pulseClasses
  cases hpv : i.pulseValid with
  | false => simp [hpv]
  | true =>
    have hclass : i.pulseClass p = .ignore := by simpa [Input.counts, hpv] using h
    simp [hpv, hclass]

/-- The last pulse of a sequence is still to come in each of its tails. -/
theorem countedClasses_append_last_ne_nil {p : Params} {last : Input} (h : last.counts p) (pre : List Input) :
    countedClasses p (pre ++ [last]) ≠ [] := by
  have happend : countedClasses p (pre ++ [last]) = countedClasses p pre ++ countedClasses p [last] := by
    simp [countedClasses, pulseClasses]
  rw [happend, countedClasses_cons_of_counts h]
  exact List.append_ne_nil_of_right_ne_nil _ (List.cons_ne_nil _ _)

/-- A listed pulse outside the dead time is observed with the class it delivers. -/
theorem afterStep_of_pulse {s : State} {i : Input} {rest : List Input} (h : s.inputs = i :: rest) (hrst : i.rst = false)
    (hdead : s.deadCnt = 0) (hpv : i.pulseValid = true) :
    afterStep s =
      onPulse (i.pulseClass s.cfg) (showSym (i.pulseClass s.cfg) (openOutputs (consumeInput s))) := by
  simp [afterStep, nextInput_cons h, hrst, isDead, hdead, hpv, Input.pulseClass]

theorem afterStep_of_idle {s : State} {i : Input} {rest : List Input} (h : s.inputs = i :: rest) (hrst : i.rst = false)
    (hdead : s.deadCnt = 0) (hpv : i.pulseValid = false) : afterStep s = openOutputs (consumeInput s) := by
  simp [afterStep, nextInput_cons h, hrst, isDead, hdead, hpv]

theorem afterStep_cfg (s : State) : (afterStep s).cfg = s.cfg := (stepNeverChangesParameters s _ (step_eq s)).1

theorem afterStep_inputs {s : State} {i : Input} {rest : List Input} (hin : s.inputs = i :: rest) :
    (afterStep s).inputs = rest := by
  rw [(stepNeverChangesParameters s _ (step_eq s)).2, hin, List.tail_cons]

/-! ### A message on its way -/

theorem Block.onClass_bitClass (p : Params) (b : Block) (v : Bool) : b.onClass p (bitClass v) = b.takeBit p v := by
  cases v <;> rfl

/-- A data bit before the 12th is appended to the bits taken. -/
theorem Block.takeBit_of_length_ne {p : Params} {b : Block} {taken : List Bool} (v : Bool) (h : b.message = some taken)
    (hlen : taken.length ≠ 11) : b.takeBit p v = { b with message := some (taken ++ [v]) } := by
  simp [Block.takeBit, h, hlen]

/-- The 12th data bit completes the message. -/
theorem Block.takeBit_of_length_eq {p : Params} {b : Block} {taken : List Bool} (v : Bool) (h : b.message = some taken)
    (hlen : taken.length = 11) : b.takeBit p v = ⟨none, p.deadCycles, b.sent ++ emission (taken ++ [v])⟩ := by
  simp [Block.takeBit, h, hlen]

/-- A message of these bits is on its way, its classes `cs` still to come and `sent` in the trace: either all of it, START
included, whatever the registers hold, or what is left of it after the bits taken. -/
structure Underway (bits : List Bool) (sent : List Byte) (cs : List PulseClass) (s : State) : Prop where
  dead : s.deadCnt = 0
  trace : s.txTrace = sent
  classes : cs = .start :: bits.map bitClass ∨
    ∃ taken todo, s.Inv ∧ s.block.message = some taken ∧ bits = taken ++ todo ∧ cs = todo.map bitClass

/-- A message of these bits has just been completed; by the invariant the registers are clear. -/
def Completed (bits : List Bool) (sent : List Byte) (s : State) : Prop :=
  s.Inv ∧ s.block = ⟨none, s.cfg.deadCycles, sent ++ emission bits⟩

section
variable {bits : List Bool} {sent : List Byte} {c : PulseClass} {cs : List PulseClass} {s : State}

/-- Taking the input and opening the outputs are no part of it. -/
theorem underway_openOutputs_consumeInput (h : Underway bits sent cs s) :
    Underway bits sent cs (openOutputs (consumeInput s)) := by
  obtain ⟨hdead, hsent, hcs⟩ := h
  refine ⟨by simpa, by simpa, hcs.imp_right ?_⟩
  rintro ⟨taken, todo, hInv, hrest⟩
  exact ⟨taken, todo, inv_openOutputs_consumeInput hInv, by simpa using hrest⟩

/-- Nor is the symbol shown. -/
theorem underway_showSym (d : PulseClass) (h : Underway bits sent cs s) :
    Underway bits sent cs (showSym d (openOutputs (consumeInput s))) := by
  obtain ⟨hdead, hsent, hcs⟩ := underway_openOutputs_consumeInput h
  refine ⟨hdead, hsent, hcs.imp_right ?_⟩
  rintro ⟨taken, todo, hInv, hrest⟩
  exact ⟨taken, todo, inv_showSym d hInv, hrest⟩

/-- The next class of the message leaves the rest of it to come. START clears the registers, so from it on the invariant holds. -/
theorem underway_onPulse (hbits : bits.length = 12) (hcs : cs ≠ []) (h : Underway bits sent (c :: cs) s) :
    Underway bits sent cs (onPulse c s) := by
  obtain ⟨hdead, hsent, hstart | ⟨taken, todo, hInv, hmsg, rfl, htodo⟩⟩ := h
  · obtain ⟨rfl, rfl⟩ := List.cons.inj hstart
    have hInv : (clearMessage true s).Inv := inv_of_cleared rfl rfl (fun hne => absurd hdead hne) (by simp [hdead])
    exact ⟨hdead, hsent, .inr ⟨[], bits, hInv, rfl, rfl, rfl⟩⟩
  · obtain ⟨v, todo, rfl, rfl, rfl⟩ := List.map_eq_cons_iff.mp htodo.symm
    have hpos : 0 < todo.length := List.length_pos_iff.mpr (mt List.map_eq_nil_iff.mpr hcs)
    have hne : taken.length ≠ 11 := by rw [List.length_append, List.length_cons] at hbits; omega
    have hblock : (onPulse (bitClass v) s).block = { s.block with message := some (taken ++ [v]) } := by
      rw [block_onPulse _ hInv, Block.onClass_bitClass, Block.takeBit_of_length_ne v hmsg hne]
    exact ⟨(congrArg Block.dead hblock).trans hdead, (congrArg Block.sent hblock).trans hsent,
      .inr ⟨taken ++ [v], todo, inv_onPulse _ hInv hdead, congrArg Block.message hblock, by simp, rfl⟩⟩

/-- The last class of the message completes it. -/
theorem completed_onPulse (hbits : bits.length = 12) (h : Underway bits sent [c] s) :
    Completed bits sent (onPulse c s) := by
  obtain ⟨hdead, rfl, hstart | ⟨taken, todo, hInv, hmsg, rfl, htodo⟩⟩ := h
  · obtain ⟨_, hnil⟩ := List.cons.inj hstart
    rw [List.map_eq_nil_iff.mp hnil.symm] at hbits
    contradiction
  · obtain ⟨v, _, rfl, rfl, hnil⟩ := List.map_eq_cons_iff.mp htodo.symm
    obtain rfl := List.map_eq_nil_iff.mp hnil
    have heq : taken.length = 11 := by simpa using hbits
    refine ⟨inv_onPulse _ hInv hdead, ?_⟩
    rw [block_onPulse _ hInv, Block.onClass_bitClass, Block.takeBit_of_length_eq v hmsg heq, onPulse_cfg]
    rfl

/-- An input that does not count leaves the message as it was. -/
theorem underway_afterStep_of_not_counts {i : Input} {rest : List Input} (hin : s.inputs = i :: rest) (hrst : i.rst = false)
    (hi : ¬i.counts s.cfg) (h : Underway bits sent cs s) : Underway bits sent cs (afterStep s) := by
  cases hpv : i.pulseValid with
  | false =>
    rw [afterStep_of_idle hin hrst h.dead hpv]
    exact underway_openOutputs_consumeInput h
  | true =>
    have hclass : i.pulseClass s.cfg = .ignore := by simpa [Input.counts, hpv] using hi
    rw [afterStep_of_pulse hin hrst h.dead hpv, hclass]
    exact underway_showSym .ignore h

/-- An input that counts is the next class of the message. -/
theorem underway_afterStep_of_counts {i : Input} {rest : List Input} (hbits : bits.length = 12) (hcs : cs ≠ [])
    (hin : s.inputs = i :: rest) (hrst : i.rst = false) (hi : i.counts s.cfg)
    (h : Underway bits sent (i.pulseClass s.cfg :: cs) s) : Underway bits sent cs (afterStep s) := by
  obtain ⟨hpv, _⟩ := hi
  rw [afterStep_of_pulse hin hrst h.dead hpv]
  exact underway_onPulse hbits hcs (underway_showSym _ h)

theorem completed_afterStep {i : Input} {rest : List Input} (hbits : bits.length = 12) (hin : s.inputs = i :: rest)
    (hrst : i.rst = false) (hi : i.counts s.cfg) (h : Underway bits sent [i.pulseClass s.cfg] s) :
    Completed bits sent (afterStep s) := by
  obtain ⟨hpv, _⟩ := hi
  rw [afterStep_of_pulse hin hrst h.dead hpv]
  exact completed_onPulse hbits (underway_showSym _ h)

end

/-- Inputs that bring the classes still to come, the last of them last, run the message to its completion. -/
theorem run_of_underway {bits : List Bool} {sent : List Byte} {last : Input} {rest : List Input} (hbits : bits.length = 12)
    (hlrst : last.rst = false) (pre : List Input) (s : State) (hlast : last.counts s.cfg)
    (hin : s.inputs = pre ++ last :: rest) (hpre : ∀ i ∈ pre, i.rst = false)
    (h : Underway bits sent (countedClasses s.cfg (pre ++ [last])) s) :
    ∃ t, Host.Core.run core (pre.length + 1) s = .next t ∧ t.inputs = rest ∧ t.cfg = s.cfg ∧ Completed bits sent t := by
  induction pre generalizing s with
  | nil =>
    rw [List.nil_append, countedClasses_cons_of_counts hlast] at h
    exact ⟨afterStep s, (run_succ 0 s).trans (run_zero _), afterStep_inputs hin, afterStep_cfg s,
      completed_afterStep hbits hin hlrst hlast h⟩
  | cons i pre ih =>
    obtain ⟨hirst, hpre⟩ := List.forall_mem_cons.mp hpre
    rw [List.cons_append] at hin h
    have hunderway : Underway bits sent (countedClasses s.cfg (pre ++ [last])) (afterStep s) := by
      by_cases hi : i.counts s.cfg
      · rw [countedClasses_cons_of_counts hi] at h
        exact underway_afterStep_of_counts hbits (countedClasses_append_last_ne_nil hlast pre) hin hirst hi h
      · rw [countedClasses_cons_of_not_counts hi] at h
        exact underway_afterStep_of_not_counts hin hirst hi h
    rw [← afterStep_cfg s] at hlast hunderway ⊢
    rw [List.length_cons, run_succ]
    exact ih (afterStep s) hlast (afterStep_inputs hin) hpre hunderway

/-! ### The round trip of a frame -/

theorem messageClasses_eq (f : FrameWord) : messageClasses f = .start :: (lowBits f 12).map bitClass := by
  simp [messageClasses, lowBits, Config.frameBits]

/-- Settles O45: the message of a frame is on its way from any state outside the dead time, and once completed it has left what
the mode filter leaves of the frame's bits. -/
theorem messageRoundTrip : Obligations.MessageRoundTrip := by
  intro s pre last rest f hdead hin hpre hlrst hlpv hlclass hcounted
  have hstart : Underway (lowBits f 12) s.txTrace (countedClasses s.cfg (pre ++ [last])) s :=
    ⟨hdead, rfl, .inl (hcounted.trans (messageClasses_eq f))⟩
  obtain ⟨t, hrun, hrest, hcfg, hInv, hblock⟩ :=
    run_of_underway (length_lowBits f 12) hlrst pre s ⟨hlpv, hlclass⟩ hin hpre hstart
  have hmsg : t.messageValid = false := by simpa [State.block] using congrArg Block.message hblock
  obtain ⟨hidx, hbuf⟩ := hInv.waiting_clear hmsg
  refine ⟨t, hrun, hrest, hbuf, hidx, hmsg, ?_, ?_⟩
  · rw [← hcfg]
    exact congrArg Block.dead hblock
  · rw [show 0x01#5 = Config.acceptMode from rfl, ← emission_lowBits]
    exact congrArg Block.sent hblock

end Sys2Proof.Machine
end

section
/-! The top-level step (43_system_step.md R160 to R172): what each CTL operation does, what a step shows on the output ports, and
what a run over listed inputs keeps. -/

namespace Sys2Proof.Machine

/-! ### The CTL operations -/

theorem isDead_eq (s : State) : isDead s = decide (s.deadCnt ≠ 0) := Bool.eq_iff_iff.mpr (by simp [isDead])

theorem isDead_of_zero {s : State} (h : s.deadCnt = 0) : isDead s = false := by simp [isDead, h]

theorem isDead_of_ne_zero {s : State} (h : s.deadCnt ≠ 0) : isDead s = true := by simp [isDead, h]

/-- Settles O29: RESET opens the outputs, which show `busy` as the state before had it, and clears the four registers. -/
theorem resetOperation : Obligations.ResetOperation := by
  intro s
  rw [← isDead_eq]
  rfl

/-- Settles O30: in the dead time the outputs open with `busy` set. -/
theorem deadTickOperation : Obligations.DeadTickOperation := by
  intro s hdead
  rw [← isDead_of_ne_zero hdead]
  rfl

/-- Settles O31: outside the dead time the outputs open with `busy` clear, and IDLE does nothing else. -/
theorem idleOperation : Obligations.IdleOperation := by
  intro s hdead
  rw [← isDead_of_zero hdead]
  rfl

/-- Settles O32: a PULSE is `on_pulse` of its class with the code shown, and `on_pulse` touches neither `busy` nor the symbol. -/
theorem pulseRunsItsSymbol : Obligations.PulseRunsItsSymbol := by
  intro n s hdead
  refine ⟨onPulse (classify s.cfg n) (showSym (classify s.cfg n) (openOutputs s)), rfl, ?_, ?_, ?_⟩
  · rw [exec_symInstr, ← isDead_of_zero hdead]
    rfl
  · simp [isDead_of_zero hdead]
  · simp

/-! ### The step -/

/-- Settles O4, by the priority of the control word and the two ways to take an input. -/
theorem stepRunsDecodedInput : Obligations.StepRunsDecodedInput := by
  refine ⟨fun s i rest hin => ?_, fun s hin => ?_⟩
  · have hstep : step s = exec (fetch s) { s with inputs := rest } := by rw [step, consumeInput_cons hin]
    rw [hstep, fetch_eq, nextInput_cons hin]
    refine ⟨fun hrst => ?_, fun hrst hdead => ?_, fun hrst hdead hpv => ?_, fun hrst hdead hpv => ?_⟩
    · simp [hrst]
    · simp [hrst, isDead_of_ne_zero hdead]
    · simp [hrst, isDead_of_zero hdead, hpv]
    · simp [hrst, isDead_of_zero hdead, hpv]
  · simp [step, fetch, consumeInput_nil hin, nextInput, hin]

/-- Settles O5: a step goes on to `afterStep`, and every arm of `exec` answers a next state. -/
theorem stepAndExecAlwaysGoOn : Obligations.StepAndExecAlwaysGoOn :=
  ⟨fun s => ⟨afterStep s, step_eq s⟩, fun i _ => by cases i <;> exact ⟨_, rfl⟩⟩

/-! ### The output ports -/

theorem afterStep_busy (s : State) : (afterStep s).out.busy = decide (s.deadCnt ≠ 0) := by
  rcases step_cases (step_eq s) with ⟨_, heq⟩ | ⟨_, _, heq⟩ | ⟨_, _, heq⟩ | ⟨_, _, _, heq⟩ <;> rw [heq] <;> simp [isDead_eq]

/-- A step observes at most one class. -/
theorem State.observes.iff_eq {s : State} {c : PulseClass} (h : s.observes c) (d : PulseClass) : s.observes d ↔ c = d := by
  obtain ⟨hrst, hdead, hpv, hclass⟩ := h
  simp [State.observes, hrst, hdead, hpv, hclass]

/-- Settles O40: of the four kinds of step only an observed pulse shows a symbol, and the codes tell the classes apart. -/
theorem busyAndSymbolOutputs : Obligations.BusyAndSymbolOutputs := by
  intro s t hstep
  refine ⟨step_next_iff.mp hstep ▸ afterStep_busy s, fun d => ?_⟩
  rcases step_cases hstep with ⟨hrst, rfl⟩ | ⟨_, hdead, rfl⟩ | ⟨c, hobs, rfl⟩ | ⟨_, _, hpv, rfl⟩
  · simp [State.observes, hrst]
  · simp [State.observes, hdead]
  · simp [hobs.iff_eq d, symCode_injective.eq_iff]
  · simp [State.observes, hpv]

/-! ### Runs over listed inputs -/

/-- The induction over a run: a property of the inputs still to come and of the state, kept by each step whose input meets `Q`,
holds at the end, where no input is left. -/
theorem run_listed {rest : List Input} {Q : Params → Input → Prop} {P : List Input → State → Prop}
    (hstep : ∀ i ins s, s.inputs = i :: (ins ++ rest) → Q s.cfg i → P (i :: ins) s → P ins (afterStep s))
    (ins : List Input) (s : State) (hin : s.inputs = ins ++ rest) (hQ : ∀ i ∈ ins, Q s.cfg i) (hP : P ins s) :
    ∃ t, Host.Core.run core ins.length s = .next t ∧ t.inputs = rest ∧ P [] t := by
  induction ins generalizing s with
  | nil => exact ⟨s, run_zero s, hin, hP⟩
  | cons i ins ih =>
    obtain ⟨hi, hQ⟩ := List.forall_mem_cons.mp hQ
    rw [← afterStep_cfg s] at hQ
    rw [List.length_cons, run_succ]
    exact ih (afterStep s) (afterStep_inputs hin) hQ (hstep i ins s hin hi hP)

/-! ### The run refines the event-level decoder -/

/-- The port's width is the one the event-level decoder reads a listed measurement through. -/
theorem block_step_nextInput {s : State} {i : Input} {rest : List Input} (hin : s.inputs = i :: rest) (b : Block) :
    b.step s.cfg (nextInput s) = b.step s.cfg i := by
  simp [Block.step, Input.pulseClass, nextInput_cons hin]

/-- The event-level decoder, fed the inputs still to come, leads from the view of the state to `final`. -/
def DecodesTo (final : Block) (ins : List Input) (s : State) : Prop :=
  s.Inv ∧ ins.foldl (fun b i => b.step s.cfg i) s.block = final

theorem decodesTo_afterStep {final : Block} {rest : List Input} (i : Input) (ins : List Input) (s : State)
    (hin : s.inputs = i :: (ins ++ rest)) (h : DecodesTo final (i :: ins) s) : DecodesTo final ins (afterStep s) := by
  obtain ⟨hInv, hfold⟩ := h
  refine ⟨stepKeepsInvariant s _ hInv (step_eq s), ?_⟩
  rwa [stepRefinesEventDecoder s _ hInv (step_eq s), block_step_nextInput hin, afterStep_cfg]

/-- Settles O43: each step takes one event off the fold. -/
theorem runRefinesEventDecoder : Obligations.RunRefinesEventDecoder := by
  intro s ins rest hInv hin
  obtain ⟨t, hrun, hrest, htInv, hblock⟩ :=
    run_listed (Q := fun _ _ => True) (fun i ins s hin _ => decodesTo_afterStep i ins s hin) ins s hin
      (fun _ _ => trivial) ⟨hInv, rfl⟩
  exact ⟨t, hrun, htInv, hrest, hblock⟩

/-! ### What a run keeps of the message and the trace -/

/-- The three registers of a message and the bytes sent: all that `on_pulse` reads or writes but the dead time. -/
structure Progress where
  bitBuffer : FrameWord
  bitIndex : BitVec 4
  messageValid : Bool
  sent : List Byte

def State.progress (s : State) : Progress := ⟨s.bitBuffer, s.bitIndex, s.messageValid, s.txTrace⟩

theorem progress_eq_iff {s t : State} : t.progress = s.progress ↔
    t.bitBuffer = s.bitBuffer ∧ t.bitIndex = s.bitIndex ∧ t.messageValid = s.messageValid ∧ t.txTrace = s.txTrace := by
  simp [State.progress]

@[simp] theorem progress_openOutputs_consumeInput (s : State) : (openOutputs (consumeInput s)).progress = s.progress := by
  simp [State.progress]

@[simp] theorem progress_showSym (c : PulseClass) (s : State) : (showSym c s).progress = s.progress := rfl

@[simp] theorem progress_setDead (n : Nat) (s : State) : (setDead n s).progress = s.progress := rfl

theorem progress_afterFrame (f : FrameWord) (s : State) : (afterFrame f s).progress =
    ⟨0x000#12, 0#4, false,
      s.txTrace ++ if frameMode f = Config.acceptMode then [memRead (frameButton f)] else []⟩ := by
  obtain ⟨hbuf, hidx, hmsg, _, _, _, _, htrace, _⟩ := afterFrame_fields f s
  simp [State.progress, hbuf, hidx, hmsg, htrace]

/-- What a data bit does to the message and the trace depends on them alone. -/
theorem progress_takeBit_congr (v : Bool) {s u : State} (h : u.progress = s.progress) :
    (takeBit v u).progress = (takeBit v s).progress := by
  obtain ⟨hbuf, hidx, hmsg, hsent⟩ := progress_eq_iff.mp h
  rcases takeBit_cases v s with ⟨hm, heq⟩ | ⟨hm, hi, heq⟩ | ⟨hm, hi, heq⟩ <;> rw [heq]
  · rwa [takeBit_waiting v (hmsg.trans hm)]
  · rw [takeBit_next v (hmsg.trans hm) (hidx ▸ hi)]
    simp [State.progress, hbuf, hidx, hmsg, hsent]
  · rw [takeBit_final v (hmsg.trans hm) (hidx ▸ hi), progress_afterFrame, progress_afterFrame, hbuf, hidx, hsent]

theorem progress_onPulse_congr (c : PulseClass) {s u : State} (h : u.progress = s.progress) :
    (onPulse c u).progress = (onPulse c s).progress := by
  cases c with
  | start => exact congrArg (Progress.mk 0x000#12 0#4 true) (congrArg Progress.sent h)
  | one => exact progress_takeBit_congr true h
  | zero => exact progress_takeBit_congr false h
  | ignore => exact h

/-! ### The dead time -/

/-- The dead time lasts `n` steps longer than the inputs still to come, and the message and the trace are as given. -/
def DeadThrough (n : Nat) (kept : Progress) (ins : List Input) (s : State) : Prop :=
  s.deadCnt = n + ins.length ∧ s.progress = kept

theorem afterStep_of_dead {s : State} {i : Input} {rest : List Input} (hin : s.inputs = i :: rest) (hrst : i.rst = false)
    (hdead : s.deadCnt ≠ 0) : afterStep s = setDead (s.deadCnt - 1) (openOutputs (consumeInput s)) := by
  simp [afterStep, nextInput_cons hin, hrst, isDead_of_ne_zero hdead]

theorem deadThrough_afterStep {n : Nat} {kept : Progress} {rest : List Input} (i : Input) (ins : List Input) (s : State)
    (hin : s.inputs = i :: (ins ++ rest)) (hrst : i.rst = false) (h : DeadThrough n kept (i :: ins) s) :
    DeadThrough n kept ins (afterStep s) := by
  obtain ⟨hcnt, hkept⟩ := h
  rw [List.length_cons] at hcnt
  rw [afterStep_of_dead hin hrst (by omega)]
  exact ⟨by simp [hcnt], by simpa⟩

/-- Settles O34: as long as an input is to come the counter is not 0, so each step is a DEAD_TICK. -/
theorem deadTimeDropsEveryPulse : Obligations.DeadTimeDropsEveryPulse := by
  intro s ins rest hin hlen hrst
  have hdead : DeadThrough (s.deadCnt - ins.length) s.progress ins s := ⟨by omega, rfl⟩
  obtain ⟨t, hrun, hrest, hcnt, hkept⟩ :=
    run_listed (Q := fun _ i => i.rst = false) deadThrough_afterStep ins s hin hrst hdead
  exact ⟨t, hrun, hrest, hcnt, progress_eq_iff.mp hkept⟩

/-! ### Quiet inputs -/

/-- No dead time runs, and the message and the trace are as given, whatever inputs are to come. -/
def Undisturbed (kept : Progress) (_ins : List Input) (s : State) : Prop := s.deadCnt = 0 ∧ s.progress = kept

theorem Input.quiet_cases {p : Params} {i : Input} (h : i.quiet p = true) :
    i.rst = false ∧ (i.pulseValid = false ∨ i.pulseValid = true ∧ i.pulseClass p = .ignore) := by
  cases hpv : i.pulseValid <;> simpa [Input.quiet, hpv] using h

theorem undisturbed_afterStep {kept : Progress} {rest : List Input} (i : Input) (ins : List Input) (s : State)
    (hin : s.inputs = i :: (ins ++ rest)) (hquiet : i.quiet s.cfg = true) (h : Undisturbed kept (i :: ins) s) :
    Undisturbed kept ins (afterStep s) := by
  obtain ⟨hdead, hkept⟩ := h
  obtain ⟨hrst, hpv | ⟨hpv, hclass⟩⟩ := Input.quiet_cases hquiet
  · rw [afterStep_of_idle hin hrst hdead hpv]
    exact ⟨by simpa, by simpa⟩
  · rw [afterStep_of_pulse hin hrst hdead hpv, hclass]
    exact ⟨by simpa [onPulse], by simpa [onPulse]⟩

/-- Settles O35: a quiet input makes the step IDLE or a PULSE of class IGNORE. -/
theorem quietInputsChangeNothing : Obligations.QuietInputsChangeNothing := by
  intro s ins rest hin hdead hquiet
  obtain ⟨t, hrun, hrest, hcnt, hkept⟩ :=
    run_listed (Q := fun p i => i.quiet p = true) undisturbed_afterStep ins s hin hquiet ⟨hdead, rfl⟩
  exact ⟨t, hrun, hrest, hcnt, progress_eq_iff.mp hkept⟩

/-! ### The block without a dead time -/

/-- No dead time runs or can begin, and `on_pulse` of the classes still to come leads to the state `final` from one that has the
same message and trace. -/
def PulsesTo (final : State) (ins : List Input) (s : State) : Prop :=
  s.cfg.deadCycles = 0 ∧ s.deadCnt = 0 ∧
    ∃ u, u.progress = s.progress ∧ (pulseClasses s.cfg ins).foldl (fun u c => onPulse c u) u = final

/-- A pulse that completes a message starts a dead time of no steps. -/
theorem onPulse_deadCnt_eq_zero (c : PulseClass) {s : State} (hcfg : s.cfg.deadCycles = 0) (hdead : s.deadCnt = 0) :
    (onPulse c s).deadCnt = 0 := by
  rcases onPulse_deadCnt c s with heq | ⟨heq, _⟩
  · exact heq.trans hdead
  · exact heq.trans hcfg

theorem pulseClasses_cons (p : Params) (i : Input) (ins : List Input) :
    pulseClasses p (i :: ins) = if i.pulseValid then i.pulseClass p :: pulseClasses p ins else pulseClasses p ins := by
  cases hpv : i.pulseValid <;> simp [pulseClasses, hpv]

theorem pulsesTo_afterStep {final : State} {rest : List Input} (i : Input) (ins : List Input) (s : State)
    (hin : s.inputs = i :: (ins ++ rest)) (hrst : i.rst = false) (h : PulsesTo final (i :: ins) s) :
    PulsesTo final ins (afterStep s) := by
  obtain ⟨hcfg, hdead, u, hu, hfold⟩ := h
  rw [pulseClasses_cons] at hfold
  rw [PulsesTo, afterStep_cfg]
  cases hpv : i.pulseValid with
  | false =>
    rw [afterStep_of_idle hin hrst hdead hpv]
    exact ⟨hcfg, by simpa, u, by simpa, by simpa [hpv] using hfold⟩
  | true =>
    rw [afterStep_of_pulse hin hrst hdead hpv]
    exact ⟨hcfg, onPulse_deadCnt_eq_zero _ (by simpa) (by simpa), onPulse (i.pulseClass s.cfg) u,
      progress_onPulse_congr _ (by simpa), by simpa [hpv] using hfold⟩

/-- Settles O44: the shell around `on_pulse` touches only outputs and inputs, and each pulse takes one class off the fold. -/
theorem withoutDeadTimeEveryPulseIsObserved : Obligations.WithoutDeadTimeEveryPulseIsObserved := by
  intro s ins rest hcfg hdead hin hrst
  obtain ⟨t, hrun, _, _, hcnt, u, hu, hfold⟩ :=
    run_listed (Q := fun _ i => i.rst = false) pulsesTo_afterStep ins s hin hrst ⟨hcfg, hdead, s, rfl, rfl⟩
  obtain rfl : u = _ := hfold
  obtain ⟨hbuf, hidx, hmsg, hsent⟩ := progress_eq_iff.mp hu.symm
  exact ⟨t, hrun, hbuf, hidx, hmsg, hcnt, hsent⟩

end Sys2Proof.Machine
end

section
/-! What is silently dropped (60_exceptions.md R183, R188, R189): a completed frame of another mode, and a pulse that a reset or
the dead time masks. -/

namespace Sys2Proof.Machine

/-! ### A frame of another mode -/

/-- A message that emits nothing only ends (42_finalize_translate.md R142, R145, R146). -/
theorem endMessage_eq_afterDiscard (s : State) : endMessage s = afterDiscard s := rfl

/-- Settles O26: MSG_WRONG_MODE ends the message whatever its operands are; that the mode is another one is the decoder's choice
of the row. -/
theorem wrongModeDiscards : Obligations.WrongModeDiscards := fun _ _ s _ =>
  congrArg Host.Outcome.next (endMessage_eq_afterDiscard s)

/-! ### A masked pulse -/

/-- A reset or the dead time decides the operation: `rst` and `dead` come before `pulse_valid` in the control word
(30_encoding.md R90). -/
theorem fetch_of_masked {s : State} {i : Input} {rest : List Input} (hin : s.inputs = i :: rest)
    (h : i.rst = true ∨ s.deadCnt ≠ 0) : fetch s = if i.rst then .reset else .deadTick := by
  rcases h with hrst | hdead
  · simp [fetch_eq, nextInput_cons hin, hrst]
  · rw [fetch_of_dead hdead, nextInput_cons hin]

/-- A step that masks its pulse reads `rst` and `dead_cnt` and drops the rest of its input. -/
theorem step_of_masked {s : State} {i : Input} {rest : List Input} (hin : s.inputs = i :: rest)
    (h : i.rst = true ∨ s.deadCnt ≠ 0) :
    step s = exec (if i.rst then .reset else .deadTick) { s with inputs := rest } := by
  rw [step, fetch_of_masked hin h, consumeInput_cons hin]

/-- Settles O33: what `step_of_masked` says of either input does not mention `pulse_valid` or `raw_ticks`. -/
theorem maskedPulseIsLost : Obligations.MaskedPulseIsLost := by
  intro s rst v w a b rest h
  rw [step_of_masked rfl h, step_of_masked rfl h]

end Sys2Proof.Machine
end
